-- ==== Sys2Proof/Word.lean ====
section
/-! DEFINITION. The two widths of the machine (00_scope.md R7, R8): a byte of data and a 16-bit address.
Arithmetic on them wraps mod 256 and mod 65536, as a value stored in a register or put on the bus does (R8). -/

namespace Sys2Proof

/-- A u8: the width of A, X, Y, SP and of every bus datum (R7). -/
abbrev Byte := BitVec 8

/-- A u16: the width of PC and of every bus address (R7). -/
abbrev Word := BitVec 16

end Sys2Proof
end

