-- ==== Sys2Proof/Config.lean ====
section
/-! DEFINITION. What the spec leaves to the bus and its devices: constants with no body, so that nothing can be
proved of a value the spec does not give. -/

namespace Sys2Proof

/-- The stall counts a bus write can report: none, or one of the two lengths of a direct-memory transfer
(20_memory.md R104: "stalls the CPU for 513 or 514 cycles"). -/
inductive DmaStall where
  /-- The write triggers no transfer. -/
  | none
  /-- The write triggers a transfer that takes 513 cycles. -/
  | short
  /-- The write triggers a transfer that takes 514 cycles. -/
  | long
  deriving DecidableEq, Repr, Inhabited

/-- What an access did that a device behind the bus has seen. -/
inductive AccessKind where
  /-- A read, which may have a side effect inside the bus (R100). -/
  | read
  /-- A write of a byte to a device register (R101). -/
  | write (v : Byte)
  /-- A write of a byte to a ROM address, whose effect is the bus's (R101). -/
  | romWrite (v : Byte)
  deriving DecidableEq, Repr

/-- One access the devices behind the bus have seen: what it did, the address it was made to once mirroring is undone, and
the contents of RAM and ROM when it was made, which a direct-memory transfer may read (R104). -/
structure BusAccess where
  kind : AccessKind
  addr : Word
  mem : List Host.Cell
  deriving DecidableEq, Repr

/-- FREE VALUE (log 4; R100, 93 section 1: "the bus function; any value for CORE"): the byte a device returns to a read of
`addr`, after the accesses it has seen, the latest first, while RAM and ROM hold `mem`. The accesses are the bus state σ
of R100 as far as it is not memory: whatever a device latches, it latches from them. -/
opaque Config.deviceRead (accesses : List BusAccess) (mem : List Host.Cell) (addr : Word) : Byte

/-- FREE VALUE (log 5; the parameter DMA_STALL of R104, D15): what a write of `v` to the device register at `addr` reports
when the cycle counter reads `cyc`. D15 gives it the address and CYC, and the type of R101 the bus state and the byte
too. -/
opaque Config.dmaStall (accesses : List BusAccess) (addr : Word) (v : Byte) (cyc : Nat) : DmaStall

end Sys2Proof
end

