-- ==== Sys2Proof/Syntax.lean ====
section
/-! DEFINITION. The instructions of CORE as syntax: one constructor per documented row of the opcode table
(30_encoding.md R170; a row is a mnemonic and an addressing mode), with the operand bytes it carries, and one
constructor for the rows of the mnemonic UNIMPLEMENTED (R163), which carries the row's opcode byte.
A 16-bit operand is already put together from its two bytes (low byte first, R108). -/

namespace Sys2Proof

/-- An instruction. Each docstring names the row: opcode, mnemonic, addressing mode, and the rule of the spec
that gives its meaning. -/
inductive Instr where
  /-- 0xA9 LDA imm (R200). -/
  | ldaImm (v : Byte)
  /-- 0xA5 LDA zp (R200). -/
  | ldaZp (a : Byte)
  /-- 0xB5 LDA zpx (R200). -/
  | ldaZpx (a : Byte)
  /-- 0xAD LDA abs (R200). -/
  | ldaAbs (a : Word)
  /-- 0xBD LDA absx (R200). -/
  | ldaAbsx (a : Word)
  /-- 0xB9 LDA absy (R200). -/
  | ldaAbsy (a : Word)
  /-- 0xA1 LDA indx (R200). -/
  | ldaIndx (z : Byte)
  /-- 0xB1 LDA indy (R200). -/
  | ldaIndy (z : Byte)
  /-- 0xA2 LDX imm (R201). -/
  | ldxImm (v : Byte)
  /-- 0xA6 LDX zp (R201). -/
  | ldxZp (a : Byte)
  /-- 0xB6 LDX zpy (R201). -/
  | ldxZpy (a : Byte)
  /-- 0xAE LDX abs (R201). -/
  | ldxAbs (a : Word)
  /-- 0xBE LDX absy (R201). -/
  | ldxAbsy (a : Word)
  /-- 0xA0 LDY imm (R202). -/
  | ldyImm (v : Byte)
  /-- 0xA4 LDY zp (R202). -/
  | ldyZp (a : Byte)
  /-- 0xB4 LDY zpx (R202). -/
  | ldyZpx (a : Byte)
  /-- 0xAC LDY abs (R202). -/
  | ldyAbs (a : Word)
  /-- 0xBC LDY absx (R202). -/
  | ldyAbsx (a : Word)
  /-- 0x85 STA zp (R203). -/
  | staZp (a : Byte)
  /-- 0x95 STA zpx (R203). -/
  | staZpx (a : Byte)
  /-- 0x8D STA abs (R203). -/
  | staAbs (a : Word)
  /-- 0x9D STA absx (R203). -/
  | staAbsx (a : Word)
  /-- 0x99 STA absy (R203). -/
  | staAbsy (a : Word)
  /-- 0x81 STA indx (R203). -/
  | staIndx (z : Byte)
  /-- 0x91 STA indy (R203). -/
  | staIndy (z : Byte)
  /-- 0x86 STX zp (R204). -/
  | stxZp (a : Byte)
  /-- 0x96 STX zpy (R204). -/
  | stxZpy (a : Byte)
  /-- 0x8E STX abs (R204). -/
  | stxAbs (a : Word)
  /-- 0x84 STY zp (R205). -/
  | styZp (a : Byte)
  /-- 0x94 STY zpx (R205). -/
  | styZpx (a : Byte)
  /-- 0x8C STY abs (R205). -/
  | styAbs (a : Word)
  /-- 0xAA TAX imp (R206). -/
  | tax
  /-- 0xA8 TAY imp (R207). -/
  | tay
  /-- 0xBA TSX imp (R208). -/
  | tsx
  /-- 0x8A TXA imp (R209). -/
  | txa
  /-- 0x9A TXS imp (R210). -/
  | txs
  /-- 0x98 TYA imp (R211). -/
  | tya
  /-- 0x69 ADC imm (R240). -/
  | adcImm (v : Byte)
  /-- 0x65 ADC zp (R240). -/
  | adcZp (a : Byte)
  /-- 0x75 ADC zpx (R240). -/
  | adcZpx (a : Byte)
  /-- 0x6D ADC abs (R240). -/
  | adcAbs (a : Word)
  /-- 0x7D ADC absx (R240). -/
  | adcAbsx (a : Word)
  /-- 0x79 ADC absy (R240). -/
  | adcAbsy (a : Word)
  /-- 0x61 ADC indx (R240). -/
  | adcIndx (z : Byte)
  /-- 0x71 ADC indy (R240). -/
  | adcIndy (z : Byte)
  /-- 0xE9 SBC imm (R241). -/
  | sbcImm (v : Byte)
  /-- 0xE5 SBC zp (R241). -/
  | sbcZp (a : Byte)
  /-- 0xF5 SBC zpx (R241). -/
  | sbcZpx (a : Byte)
  /-- 0xED SBC abs (R241). -/
  | sbcAbs (a : Word)
  /-- 0xFD SBC absx (R241). -/
  | sbcAbsx (a : Word)
  /-- 0xF9 SBC absy (R241). -/
  | sbcAbsy (a : Word)
  /-- 0xE1 SBC indx (R241). -/
  | sbcIndx (z : Byte)
  /-- 0xF1 SBC indy (R241). -/
  | sbcIndy (z : Byte)
  /-- 0x29 AND imm (R260). -/
  | andImm (v : Byte)
  /-- 0x25 AND zp (R260). -/
  | andZp (a : Byte)
  /-- 0x35 AND zpx (R260). -/
  | andZpx (a : Byte)
  /-- 0x2D AND abs (R260). -/
  | andAbs (a : Word)
  /-- 0x3D AND absx (R260). -/
  | andAbsx (a : Word)
  /-- 0x39 AND absy (R260). -/
  | andAbsy (a : Word)
  /-- 0x21 AND indx (R260). -/
  | andIndx (z : Byte)
  /-- 0x31 AND indy (R260). -/
  | andIndy (z : Byte)
  /-- 0x09 ORA imm (R261). -/
  | oraImm (v : Byte)
  /-- 0x05 ORA zp (R261). -/
  | oraZp (a : Byte)
  /-- 0x15 ORA zpx (R261). -/
  | oraZpx (a : Byte)
  /-- 0x0D ORA abs (R261). -/
  | oraAbs (a : Word)
  /-- 0x1D ORA absx (R261). -/
  | oraAbsx (a : Word)
  /-- 0x19 ORA absy (R261). -/
  | oraAbsy (a : Word)
  /-- 0x01 ORA indx (R261). -/
  | oraIndx (z : Byte)
  /-- 0x11 ORA indy (R261). -/
  | oraIndy (z : Byte)
  /-- 0x49 EOR imm (R262). -/
  | eorImm (v : Byte)
  /-- 0x45 EOR zp (R262). -/
  | eorZp (a : Byte)
  /-- 0x55 EOR zpx (R262). -/
  | eorZpx (a : Byte)
  /-- 0x4D EOR abs (R262). -/
  | eorAbs (a : Word)
  /-- 0x5D EOR absx (R262). -/
  | eorAbsx (a : Word)
  /-- 0x59 EOR absy (R262). -/
  | eorAbsy (a : Word)
  /-- 0x41 EOR indx (R262). -/
  | eorIndx (z : Byte)
  /-- 0x51 EOR indy (R262). -/
  | eorIndy (z : Byte)
  /-- 0x24 BIT zp (R263). -/
  | bitZp (a : Byte)
  /-- 0x2C BIT abs (R263). -/
  | bitAbs (a : Word)
  /-- 0xC9 CMP imm (R281). -/
  | cmpImm (v : Byte)
  /-- 0xC5 CMP zp (R281). -/
  | cmpZp (a : Byte)
  /-- 0xD5 CMP zpx (R281). -/
  | cmpZpx (a : Byte)
  /-- 0xCD CMP abs (R281). -/
  | cmpAbs (a : Word)
  /-- 0xDD CMP absx (R281). -/
  | cmpAbsx (a : Word)
  /-- 0xD9 CMP absy (R281). -/
  | cmpAbsy (a : Word)
  /-- 0xC1 CMP indx (R281). -/
  | cmpIndx (z : Byte)
  /-- 0xD1 CMP indy (R281). -/
  | cmpIndy (z : Byte)
  /-- 0xE0 CPX imm (R282). -/
  | cpxImm (v : Byte)
  /-- 0xE4 CPX zp (R282). -/
  | cpxZp (a : Byte)
  /-- 0xEC CPX abs (R282). -/
  | cpxAbs (a : Word)
  /-- 0xC0 CPY imm (R283). -/
  | cpyImm (v : Byte)
  /-- 0xC4 CPY zp (R283). -/
  | cpyZp (a : Byte)
  /-- 0xCC CPY abs (R283). -/
  | cpyAbs (a : Word)
  /-- 0xE6 INC zp (R300). -/
  | incZp (a : Byte)
  /-- 0xF6 INC zpx (R300). -/
  | incZpx (a : Byte)
  /-- 0xEE INC abs (R300). -/
  | incAbs (a : Word)
  /-- 0xFE INC absx (R300). -/
  | incAbsx (a : Word)
  /-- 0xC6 DEC zp (R301). -/
  | decZp (a : Byte)
  /-- 0xD6 DEC zpx (R301). -/
  | decZpx (a : Byte)
  /-- 0xCE DEC abs (R301). -/
  | decAbs (a : Word)
  /-- 0xDE DEC absx (R301). -/
  | decAbsx (a : Word)
  /-- 0xE8 INX imp (R302). -/
  | inx
  /-- 0xC8 INY imp (R303). -/
  | iny
  /-- 0xCA DEX imp (R304). -/
  | dex
  /-- 0x88 DEY imp (R305). -/
  | dey
  /-- 0x0A ASL acc (R321). -/
  | aslAcc
  /-- 0x06 ASL zp (R321). -/
  | aslZp (a : Byte)
  /-- 0x16 ASL zpx (R321). -/
  | aslZpx (a : Byte)
  /-- 0x0E ASL abs (R321). -/
  | aslAbs (a : Word)
  /-- 0x1E ASL absx (R321). -/
  | aslAbsx (a : Word)
  /-- 0x4A LSR acc (R322). -/
  | lsrAcc
  /-- 0x46 LSR zp (R322). -/
  | lsrZp (a : Byte)
  /-- 0x56 LSR zpx (R322). -/
  | lsrZpx (a : Byte)
  /-- 0x4E LSR abs (R322). -/
  | lsrAbs (a : Word)
  /-- 0x5E LSR absx (R322). -/
  | lsrAbsx (a : Word)
  /-- 0x2A ROL acc (R323). -/
  | rolAcc
  /-- 0x26 ROL zp (R323). -/
  | rolZp (a : Byte)
  /-- 0x36 ROL zpx (R323). -/
  | rolZpx (a : Byte)
  /-- 0x2E ROL abs (R323). -/
  | rolAbs (a : Word)
  /-- 0x3E ROL absx (R323). -/
  | rolAbsx (a : Word)
  /-- 0x6A ROR acc (R324). -/
  | rorAcc
  /-- 0x66 ROR zp (R324). -/
  | rorZp (a : Byte)
  /-- 0x76 ROR zpx (R324). -/
  | rorZpx (a : Byte)
  /-- 0x6E ROR abs (R324). -/
  | rorAbs (a : Word)
  /-- 0x7E ROR absx (R324). -/
  | rorAbsx (a : Word)
  /-- 0x90 BCC rel (R341). -/
  | bcc (off : Byte)
  /-- 0xB0 BCS rel (R342). -/
  | bcs (off : Byte)
  /-- 0xF0 BEQ rel (R343). -/
  | beq (off : Byte)
  /-- 0x30 BMI rel (R344). -/
  | bmi (off : Byte)
  /-- 0xD0 BNE rel (R345). -/
  | bne (off : Byte)
  /-- 0x10 BPL rel (R346). -/
  | bpl (off : Byte)
  /-- 0x50 BVC rel (R347). -/
  | bvc (off : Byte)
  /-- 0x70 BVS rel (R348). -/
  | bvs (off : Byte)
  /-- 0x4C JMP abs (R360). -/
  | jmpAbs (a : Word)
  /-- 0x6C JMP ind (R360). -/
  | jmpInd (p : Word)
  /-- 0x20 JSR abs (R361); the high byte of the target is fetched by the instruction itself, after its pushes. -/
  | jsr (lo : Byte)
  /-- 0x60 RTS imp (R362). -/
  | rts
  /-- 0x48 PHA imp (R380). -/
  | pha
  /-- 0x08 PHP imp (R381). -/
  | php
  /-- 0x68 PLA imp (R382). -/
  | pla
  /-- 0x28 PLP imp (R383). -/
  | plp
  /-- 0x18 CLC imp (R400). -/
  | clc
  /-- 0xD8 CLD imp (R401). -/
  | cld
  /-- 0x58 CLI imp (R402). -/
  | cli
  /-- 0xB8 CLV imp (R403). -/
  | clv
  /-- 0x38 SEC imp (R404). -/
  | sec
  /-- 0xF8 SED imp (R405). -/
  | sed
  /-- 0x78 SEI imp (R406). -/
  | sei
  /-- 0xEA NOP imp (R407). -/
  | nop
  /-- 0x00 BRK imp (R420); its padding byte is fetched by the instruction itself. -/
  | brk
  /-- 0x40 RTI imp (R421). -/
  | rti
  /-- Any of the 105 opcode values with no documented instruction (R163, R440). -/
  | unimplemented (op : Byte)
  deriving DecidableEq, Repr

end Sys2Proof
end

