-- ==== Sys2Proof/Decode.lean ====
section
/-! DEFINITION. The decoder (30_encoding.md R140, R141, R160 to R170): the constant 256-entry table of the spec,
indexed by the opcode byte, and the reading of the operand bytes after it; then the encoder.
The byte-order helpers stand here too, because operands need them first. -/

namespace Sys2Proof

/-- `cat16(hi, lo)` is `hi * 256 + lo` (00_scope.md R8). -/
def cat16 (hi lo : Byte) : Word := hi ++ lo

/-- `lo8(v)` is `v mod 256` (R8). -/
def lo8 (v : Word) : Byte := v.setWidth 8

/-- `hi8(v)` is `(v div 256) mod 256` (R8). -/
def hi8 (v : Word) : Byte := (v >>> 8).setWidth 8

/-- The addressing modes (00_scope.md R11), by the short names of the spec's tables. -/
inductive Mode where
  | imp | acc | imm | zp | zpx | zpy | rel | abs | absx | absy | ind | indx | indy
  deriving DecidableEq, Repr

/-- The instruction classes of cycle accounting and of bus access (00_scope.md R12, 30_encoding.md R156). -/
inductive Class where
  | read | write | rmw | acc | jump | branch | stack | implied
  deriving DecidableEq, Repr

/-- How an instruction is put together from the operand bytes the decoder consumes: none, one, or two
(a 16-bit operand, low byte first). -/
inductive Build where
  | plain (i : Instr)
  | byte (f : Byte → Instr)
  | word (f : Word → Instr)

/-- The Instruction Record of a documented opcode (R162): its opcode value, mnemonic, addressing mode, base cycle
count, whether a page crossing adds a cycle, its class, and the instruction it builds. -/
structure Row where
  opcode : Nat
  mnemonic : String
  mode : Mode
  cycles : Nat
  pagePenalty : Bool
  cls : Class
  build : Build

/-- The length of an instruction in bytes, a function of the addressing mode (R141). -/
def Mode.length : Mode → Nat
  | .imp | .acc => 1
  | .imm | .zp | .zpx | .zpy | .rel | .indx | .indy => 2
  | .abs | .absx | .absy | .ind => 3

/-- The documented rows 0x00 to 0x0F of R170. -/
def opcodeRows0x : List Row := [
  ⟨0x00, "BRK", .imp, 7, false, .stack, .plain .brk⟩,
  ⟨0x01, "ORA", .indx, 6, false, .read, .byte .oraIndx⟩,
  ⟨0x05, "ORA", .zp, 3, false, .read, .byte .oraZp⟩,
  ⟨0x06, "ASL", .zp, 5, false, .rmw, .byte .aslZp⟩,
  ⟨0x08, "PHP", .imp, 3, false, .stack, .plain .php⟩,
  ⟨0x09, "ORA", .imm, 2, false, .read, .byte .oraImm⟩,
  ⟨0x0A, "ASL", .acc, 2, false, .acc, .plain .aslAcc⟩,
  ⟨0x0D, "ORA", .abs, 4, false, .read, .word .oraAbs⟩,
  ⟨0x0E, "ASL", .abs, 6, false, .rmw, .word .aslAbs⟩]

/-- The documented rows 0x10 to 0x1F of R170. -/
def opcodeRows1x : List Row := [
  ⟨0x10, "BPL", .rel, 2, false, .branch, .byte .bpl⟩,
  ⟨0x11, "ORA", .indy, 5, true, .read, .byte .oraIndy⟩,
  ⟨0x15, "ORA", .zpx, 4, false, .read, .byte .oraZpx⟩,
  ⟨0x16, "ASL", .zpx, 6, false, .rmw, .byte .aslZpx⟩,
  ⟨0x18, "CLC", .imp, 2, false, .implied, .plain .clc⟩,
  ⟨0x19, "ORA", .absy, 4, true, .read, .word .oraAbsy⟩,
  ⟨0x1D, "ORA", .absx, 4, true, .read, .word .oraAbsx⟩,
  ⟨0x1E, "ASL", .absx, 7, false, .rmw, .word .aslAbsx⟩]

/-- The documented rows 0x20 to 0x2F of R170. -/
def opcodeRows2x : List Row := [
  ⟨0x20, "JSR", .abs, 6, false, .stack, .byte .jsr⟩,
  ⟨0x21, "AND", .indx, 6, false, .read, .byte .andIndx⟩,
  ⟨0x24, "BIT", .zp, 3, false, .read, .byte .bitZp⟩,
  ⟨0x25, "AND", .zp, 3, false, .read, .byte .andZp⟩,
  ⟨0x26, "ROL", .zp, 5, false, .rmw, .byte .rolZp⟩,
  ⟨0x28, "PLP", .imp, 4, false, .stack, .plain .plp⟩,
  ⟨0x29, "AND", .imm, 2, false, .read, .byte .andImm⟩,
  ⟨0x2A, "ROL", .acc, 2, false, .acc, .plain .rolAcc⟩,
  ⟨0x2C, "BIT", .abs, 4, false, .read, .word .bitAbs⟩,
  ⟨0x2D, "AND", .abs, 4, false, .read, .word .andAbs⟩,
  ⟨0x2E, "ROL", .abs, 6, false, .rmw, .word .rolAbs⟩]

/-- The documented rows 0x30 to 0x3F of R170. -/
def opcodeRows3x : List Row := [
  ⟨0x30, "BMI", .rel, 2, false, .branch, .byte .bmi⟩,
  ⟨0x31, "AND", .indy, 5, true, .read, .byte .andIndy⟩,
  ⟨0x35, "AND", .zpx, 4, false, .read, .byte .andZpx⟩,
  ⟨0x36, "ROL", .zpx, 6, false, .rmw, .byte .rolZpx⟩,
  ⟨0x38, "SEC", .imp, 2, false, .implied, .plain .sec⟩,
  ⟨0x39, "AND", .absy, 4, true, .read, .word .andAbsy⟩,
  ⟨0x3D, "AND", .absx, 4, true, .read, .word .andAbsx⟩,
  ⟨0x3E, "ROL", .absx, 7, false, .rmw, .word .rolAbsx⟩]

/-- The documented rows 0x40 to 0x4F of R170. -/
def opcodeRows4x : List Row := [
  ⟨0x40, "RTI", .imp, 6, false, .stack, .plain .rti⟩,
  ⟨0x41, "EOR", .indx, 6, false, .read, .byte .eorIndx⟩,
  ⟨0x45, "EOR", .zp, 3, false, .read, .byte .eorZp⟩,
  ⟨0x46, "LSR", .zp, 5, false, .rmw, .byte .lsrZp⟩,
  ⟨0x48, "PHA", .imp, 3, false, .stack, .plain .pha⟩,
  ⟨0x49, "EOR", .imm, 2, false, .read, .byte .eorImm⟩,
  ⟨0x4A, "LSR", .acc, 2, false, .acc, .plain .lsrAcc⟩,
  ⟨0x4C, "JMP", .abs, 3, false, .jump, .word .jmpAbs⟩,
  ⟨0x4D, "EOR", .abs, 4, false, .read, .word .eorAbs⟩,
  ⟨0x4E, "LSR", .abs, 6, false, .rmw, .word .lsrAbs⟩]

/-- The documented rows 0x50 to 0x5F of R170. -/
def opcodeRows5x : List Row := [
  ⟨0x50, "BVC", .rel, 2, false, .branch, .byte .bvc⟩,
  ⟨0x51, "EOR", .indy, 5, true, .read, .byte .eorIndy⟩,
  ⟨0x55, "EOR", .zpx, 4, false, .read, .byte .eorZpx⟩,
  ⟨0x56, "LSR", .zpx, 6, false, .rmw, .byte .lsrZpx⟩,
  ⟨0x58, "CLI", .imp, 2, false, .implied, .plain .cli⟩,
  ⟨0x59, "EOR", .absy, 4, true, .read, .word .eorAbsy⟩,
  ⟨0x5D, "EOR", .absx, 4, true, .read, .word .eorAbsx⟩,
  ⟨0x5E, "LSR", .absx, 7, false, .rmw, .word .lsrAbsx⟩]

/-- The documented rows 0x60 to 0x6F of R170. -/
def opcodeRows6x : List Row := [
  ⟨0x60, "RTS", .imp, 6, false, .stack, .plain .rts⟩,
  ⟨0x61, "ADC", .indx, 6, false, .read, .byte .adcIndx⟩,
  ⟨0x65, "ADC", .zp, 3, false, .read, .byte .adcZp⟩,
  ⟨0x66, "ROR", .zp, 5, false, .rmw, .byte .rorZp⟩,
  ⟨0x68, "PLA", .imp, 4, false, .stack, .plain .pla⟩,
  ⟨0x69, "ADC", .imm, 2, false, .read, .byte .adcImm⟩,
  ⟨0x6A, "ROR", .acc, 2, false, .acc, .plain .rorAcc⟩,
  ⟨0x6C, "JMP", .ind, 5, false, .jump, .word .jmpInd⟩,
  ⟨0x6D, "ADC", .abs, 4, false, .read, .word .adcAbs⟩,
  ⟨0x6E, "ROR", .abs, 6, false, .rmw, .word .rorAbs⟩]

/-- The documented rows 0x70 to 0x7F of R170. -/
def opcodeRows7x : List Row := [
  ⟨0x70, "BVS", .rel, 2, false, .branch, .byte .bvs⟩,
  ⟨0x71, "ADC", .indy, 5, true, .read, .byte .adcIndy⟩,
  ⟨0x75, "ADC", .zpx, 4, false, .read, .byte .adcZpx⟩,
  ⟨0x76, "ROR", .zpx, 6, false, .rmw, .byte .rorZpx⟩,
  ⟨0x78, "SEI", .imp, 2, false, .implied, .plain .sei⟩,
  ⟨0x79, "ADC", .absy, 4, true, .read, .word .adcAbsy⟩,
  ⟨0x7D, "ADC", .absx, 4, true, .read, .word .adcAbsx⟩,
  ⟨0x7E, "ROR", .absx, 7, false, .rmw, .word .rorAbsx⟩]

/-- The documented rows 0x80 to 0x8F of R170. -/
def opcodeRows8x : List Row := [
  ⟨0x81, "STA", .indx, 6, false, .write, .byte .staIndx⟩,
  ⟨0x84, "STY", .zp, 3, false, .write, .byte .styZp⟩,
  ⟨0x85, "STA", .zp, 3, false, .write, .byte .staZp⟩,
  ⟨0x86, "STX", .zp, 3, false, .write, .byte .stxZp⟩,
  ⟨0x88, "DEY", .imp, 2, false, .implied, .plain .dey⟩,
  ⟨0x8A, "TXA", .imp, 2, false, .implied, .plain .txa⟩,
  ⟨0x8C, "STY", .abs, 4, false, .write, .word .styAbs⟩,
  ⟨0x8D, "STA", .abs, 4, false, .write, .word .staAbs⟩,
  ⟨0x8E, "STX", .abs, 4, false, .write, .word .stxAbs⟩]

/-- The documented rows 0x90 to 0x9F of R170. -/
def opcodeRows9x : List Row := [
  ⟨0x90, "BCC", .rel, 2, false, .branch, .byte .bcc⟩,
  ⟨0x91, "STA", .indy, 6, false, .write, .byte .staIndy⟩,
  ⟨0x94, "STY", .zpx, 4, false, .write, .byte .styZpx⟩,
  ⟨0x95, "STA", .zpx, 4, false, .write, .byte .staZpx⟩,
  ⟨0x96, "STX", .zpy, 4, false, .write, .byte .stxZpy⟩,
  ⟨0x98, "TYA", .imp, 2, false, .implied, .plain .tya⟩,
  ⟨0x99, "STA", .absy, 5, false, .write, .word .staAbsy⟩,
  ⟨0x9A, "TXS", .imp, 2, false, .implied, .plain .txs⟩,
  ⟨0x9D, "STA", .absx, 5, false, .write, .word .staAbsx⟩]

/-- The documented rows 0xA0 to 0xAF of R170. -/
def opcodeRowsAx : List Row := [
  ⟨0xA0, "LDY", .imm, 2, false, .read, .byte .ldyImm⟩,
  ⟨0xA1, "LDA", .indx, 6, false, .read, .byte .ldaIndx⟩,
  ⟨0xA2, "LDX", .imm, 2, false, .read, .byte .ldxImm⟩,
  ⟨0xA4, "LDY", .zp, 3, false, .read, .byte .ldyZp⟩,
  ⟨0xA5, "LDA", .zp, 3, false, .read, .byte .ldaZp⟩,
  ⟨0xA6, "LDX", .zp, 3, false, .read, .byte .ldxZp⟩,
  ⟨0xA8, "TAY", .imp, 2, false, .implied, .plain .tay⟩,
  ⟨0xA9, "LDA", .imm, 2, false, .read, .byte .ldaImm⟩,
  ⟨0xAA, "TAX", .imp, 2, false, .implied, .plain .tax⟩,
  ⟨0xAC, "LDY", .abs, 4, false, .read, .word .ldyAbs⟩,
  ⟨0xAD, "LDA", .abs, 4, false, .read, .word .ldaAbs⟩,
  ⟨0xAE, "LDX", .abs, 4, false, .read, .word .ldxAbs⟩]

/-- The documented rows 0xB0 to 0xBF of R170. -/
def opcodeRowsBx : List Row := [
  ⟨0xB0, "BCS", .rel, 2, false, .branch, .byte .bcs⟩,
  ⟨0xB1, "LDA", .indy, 5, true, .read, .byte .ldaIndy⟩,
  ⟨0xB4, "LDY", .zpx, 4, false, .read, .byte .ldyZpx⟩,
  ⟨0xB5, "LDA", .zpx, 4, false, .read, .byte .ldaZpx⟩,
  ⟨0xB6, "LDX", .zpy, 4, false, .read, .byte .ldxZpy⟩,
  ⟨0xB8, "CLV", .imp, 2, false, .implied, .plain .clv⟩,
  ⟨0xB9, "LDA", .absy, 4, true, .read, .word .ldaAbsy⟩,
  ⟨0xBA, "TSX", .imp, 2, false, .implied, .plain .tsx⟩,
  ⟨0xBC, "LDY", .absx, 4, true, .read, .word .ldyAbsx⟩,
  ⟨0xBD, "LDA", .absx, 4, true, .read, .word .ldaAbsx⟩,
  ⟨0xBE, "LDX", .absy, 4, true, .read, .word .ldxAbsy⟩]

/-- The documented rows 0xC0 to 0xCF of R170. -/
def opcodeRowsCx : List Row := [
  ⟨0xC0, "CPY", .imm, 2, false, .read, .byte .cpyImm⟩,
  ⟨0xC1, "CMP", .indx, 6, false, .read, .byte .cmpIndx⟩,
  ⟨0xC4, "CPY", .zp, 3, false, .read, .byte .cpyZp⟩,
  ⟨0xC5, "CMP", .zp, 3, false, .read, .byte .cmpZp⟩,
  ⟨0xC6, "DEC", .zp, 5, false, .rmw, .byte .decZp⟩,
  ⟨0xC8, "INY", .imp, 2, false, .implied, .plain .iny⟩,
  ⟨0xC9, "CMP", .imm, 2, false, .read, .byte .cmpImm⟩,
  ⟨0xCA, "DEX", .imp, 2, false, .implied, .plain .dex⟩,
  ⟨0xCC, "CPY", .abs, 4, false, .read, .word .cpyAbs⟩,
  ⟨0xCD, "CMP", .abs, 4, false, .read, .word .cmpAbs⟩,
  ⟨0xCE, "DEC", .abs, 6, false, .rmw, .word .decAbs⟩]

/-- The documented rows 0xD0 to 0xDF of R170. -/
def opcodeRowsDx : List Row := [
  ⟨0xD0, "BNE", .rel, 2, false, .branch, .byte .bne⟩,
  ⟨0xD1, "CMP", .indy, 5, true, .read, .byte .cmpIndy⟩,
  ⟨0xD5, "CMP", .zpx, 4, false, .read, .byte .cmpZpx⟩,
  ⟨0xD6, "DEC", .zpx, 6, false, .rmw, .byte .decZpx⟩,
  ⟨0xD8, "CLD", .imp, 2, false, .implied, .plain .cld⟩,
  ⟨0xD9, "CMP", .absy, 4, true, .read, .word .cmpAbsy⟩,
  ⟨0xDD, "CMP", .absx, 4, true, .read, .word .cmpAbsx⟩,
  ⟨0xDE, "DEC", .absx, 7, false, .rmw, .word .decAbsx⟩]

/-- The documented rows 0xE0 to 0xEF of R170. -/
def opcodeRowsEx : List Row := [
  ⟨0xE0, "CPX", .imm, 2, false, .read, .byte .cpxImm⟩,
  ⟨0xE1, "SBC", .indx, 6, false, .read, .byte .sbcIndx⟩,
  ⟨0xE4, "CPX", .zp, 3, false, .read, .byte .cpxZp⟩,
  ⟨0xE5, "SBC", .zp, 3, false, .read, .byte .sbcZp⟩,
  ⟨0xE6, "INC", .zp, 5, false, .rmw, .byte .incZp⟩,
  ⟨0xE8, "INX", .imp, 2, false, .implied, .plain .inx⟩,
  ⟨0xE9, "SBC", .imm, 2, false, .read, .byte .sbcImm⟩,
  ⟨0xEA, "NOP", .imp, 2, false, .implied, .plain .nop⟩,
  ⟨0xEC, "CPX", .abs, 4, false, .read, .word .cpxAbs⟩,
  ⟨0xED, "SBC", .abs, 4, false, .read, .word .sbcAbs⟩,
  ⟨0xEE, "INC", .abs, 6, false, .rmw, .word .incAbs⟩]

/-- The documented rows 0xF0 to 0xFF of R170. -/
def opcodeRowsFx : List Row := [
  ⟨0xF0, "BEQ", .rel, 2, false, .branch, .byte .beq⟩,
  ⟨0xF1, "SBC", .indy, 5, true, .read, .byte .sbcIndy⟩,
  ⟨0xF5, "SBC", .zpx, 4, false, .read, .byte .sbcZpx⟩,
  ⟨0xF6, "INC", .zpx, 6, false, .rmw, .byte .incZpx⟩,
  ⟨0xF8, "SED", .imp, 2, false, .implied, .plain .sed⟩,
  ⟨0xF9, "SBC", .absy, 4, true, .read, .word .sbcAbsy⟩,
  ⟨0xFD, "SBC", .absx, 4, true, .read, .word .sbcAbsx⟩,
  ⟨0xFE, "INC", .absx, 7, false, .rmw, .word .incAbsx⟩]

/-- The 151 documented rows (R170), in the order of their opcodes. -/
def opcodeTable : List Row :=
  opcodeRows0x ++ opcodeRows1x ++ opcodeRows2x ++ opcodeRows3x ++ opcodeRows4x ++ opcodeRows5x
  ++ opcodeRows6x ++ opcodeRows7x ++ opcodeRows8x ++ opcodeRows9x ++ opcodeRowsAx
  ++ opcodeRowsBx ++ opcodeRowsCx ++ opcodeRowsDx ++ opcodeRowsEx ++ opcodeRowsFx

/-- The row of an opcode in a list of rows, if there is one. -/
def findRow : List Row → Nat → Option Row
  | [], _ => none
  | r :: rest, op => if r.opcode = op then some r else findRow rest op

/-- The decoder's entry for an opcode byte: its row, or none for one of the 105 unimplemented values (R160, R163). -/
def rowOf (op : Byte) : Option Row := findRow opcodeTable op.toNat

/-- What an opcode byte builds. An opcode with no documented row builds the UNIMPLEMENTED instruction that
names it (R163, R440). -/
def buildOf (op : Byte) : Build :=
  match rowOf op with
  | some r => r.build
  | none => .plain (.unimplemented op)

/-- How many operand bytes the decoder consumes after the opcode. It is the length of R141 less one, but for JSR,
which fetches its high operand byte itself (R361; log 8). -/
def Build.operandBytes : Build → Nat
  | .plain _ => 0
  | .byte _ => 1
  | .word _ => 2

/-- Why a list of bytes is no instruction. Every opcode byte decodes, so the only reason is that bytes are
missing. -/
inductive DecodeError where
  /-- There is no byte at all. -/
  | noBytes
  /-- Operand bytes are missing after this opcode. -/
  | truncated (op : Byte)
  deriving DecidableEq, Repr

/-- Decode the first instruction of a list of bytes, and return it with the bytes left over. -/
def decode : List Byte → Except DecodeError (Instr × List Byte)
  | [] => .error .noBytes
  | op :: rest =>
    match buildOf op, rest with
    | .plain i, r => .ok (i, r)
    | .byte f, b :: r => .ok (f b, r)
    | .word f, lo :: hi :: r => .ok (f (cat16 hi lo), r)
    | _, _ => .error (.truncated op)

/-- The bytes of a numbered word of spec/opcode_table.json: byte 0 first, every bit from `nbits` up being 0, up to
the longest instruction (three bytes). -/
def tableBytes (nbits w : Nat) : List Byte :=
  let v := w % 2 ^ nbits
  [BitVec.ofNat 8 v, BitVec.ofNat 8 (v / 256), BitVec.ofNat 8 (v / 65536)]

/-- The instruction the decoder reads from a word of spec/opcode_table.json. -/
def decodeTableWord (nbits w : Nat) : Option Instr :=
  match decode (tableBytes nbits w) with
  | .ok (i, _) => some i
  | .error _ => none

/-! The encoder, written from the same rows. -/

/-- The opcode byte of an instruction (R170). -/
def Instr.opcode : Instr → Byte
  | .ldaImm _ => 0xA9
  | .ldaZp _ => 0xA5
  | .ldaZpx _ => 0xB5
  | .ldaAbs _ => 0xAD
  | .ldaAbsx _ => 0xBD
  | .ldaAbsy _ => 0xB9
  | .ldaIndx _ => 0xA1
  | .ldaIndy _ => 0xB1
  | .ldxImm _ => 0xA2
  | .ldxZp _ => 0xA6
  | .ldxZpy _ => 0xB6
  | .ldxAbs _ => 0xAE
  | .ldxAbsy _ => 0xBE
  | .ldyImm _ => 0xA0
  | .ldyZp _ => 0xA4
  | .ldyZpx _ => 0xB4
  | .ldyAbs _ => 0xAC
  | .ldyAbsx _ => 0xBC
  | .staZp _ => 0x85
  | .staZpx _ => 0x95
  | .staAbs _ => 0x8D
  | .staAbsx _ => 0x9D
  | .staAbsy _ => 0x99
  | .staIndx _ => 0x81
  | .staIndy _ => 0x91
  | .stxZp _ => 0x86
  | .stxZpy _ => 0x96
  | .stxAbs _ => 0x8E
  | .styZp _ => 0x84
  | .styZpx _ => 0x94
  | .styAbs _ => 0x8C
  | .tax => 0xAA
  | .tay => 0xA8
  | .tsx => 0xBA
  | .txa => 0x8A
  | .txs => 0x9A
  | .tya => 0x98
  | .adcImm _ => 0x69
  | .adcZp _ => 0x65
  | .adcZpx _ => 0x75
  | .adcAbs _ => 0x6D
  | .adcAbsx _ => 0x7D
  | .adcAbsy _ => 0x79
  | .adcIndx _ => 0x61
  | .adcIndy _ => 0x71
  | .sbcImm _ => 0xE9
  | .sbcZp _ => 0xE5
  | .sbcZpx _ => 0xF5
  | .sbcAbs _ => 0xED
  | .sbcAbsx _ => 0xFD
  | .sbcAbsy _ => 0xF9
  | .sbcIndx _ => 0xE1
  | .sbcIndy _ => 0xF1
  | .andImm _ => 0x29
  | .andZp _ => 0x25
  | .andZpx _ => 0x35
  | .andAbs _ => 0x2D
  | .andAbsx _ => 0x3D
  | .andAbsy _ => 0x39
  | .andIndx _ => 0x21
  | .andIndy _ => 0x31
  | .oraImm _ => 0x09
  | .oraZp _ => 0x05
  | .oraZpx _ => 0x15
  | .oraAbs _ => 0x0D
  | .oraAbsx _ => 0x1D
  | .oraAbsy _ => 0x19
  | .oraIndx _ => 0x01
  | .oraIndy _ => 0x11
  | .eorImm _ => 0x49
  | .eorZp _ => 0x45
  | .eorZpx _ => 0x55
  | .eorAbs _ => 0x4D
  | .eorAbsx _ => 0x5D
  | .eorAbsy _ => 0x59
  | .eorIndx _ => 0x41
  | .eorIndy _ => 0x51
  | .bitZp _ => 0x24
  | .bitAbs _ => 0x2C
  | .cmpImm _ => 0xC9
  | .cmpZp _ => 0xC5
  | .cmpZpx _ => 0xD5
  | .cmpAbs _ => 0xCD
  | .cmpAbsx _ => 0xDD
  | .cmpAbsy _ => 0xD9
  | .cmpIndx _ => 0xC1
  | .cmpIndy _ => 0xD1
  | .cpxImm _ => 0xE0
  | .cpxZp _ => 0xE4
  | .cpxAbs _ => 0xEC
  | .cpyImm _ => 0xC0
  | .cpyZp _ => 0xC4
  | .cpyAbs _ => 0xCC
  | .incZp _ => 0xE6
  | .incZpx _ => 0xF6
  | .incAbs _ => 0xEE
  | .incAbsx _ => 0xFE
  | .decZp _ => 0xC6
  | .decZpx _ => 0xD6
  | .decAbs _ => 0xCE
  | .decAbsx _ => 0xDE
  | .inx => 0xE8
  | .iny => 0xC8
  | .dex => 0xCA
  | .dey => 0x88
  | .aslAcc => 0x0A
  | .aslZp _ => 0x06
  | .aslZpx _ => 0x16
  | .aslAbs _ => 0x0E
  | .aslAbsx _ => 0x1E
  | .lsrAcc => 0x4A
  | .lsrZp _ => 0x46
  | .lsrZpx _ => 0x56
  | .lsrAbs _ => 0x4E
  | .lsrAbsx _ => 0x5E
  | .rolAcc => 0x2A
  | .rolZp _ => 0x26
  | .rolZpx _ => 0x36
  | .rolAbs _ => 0x2E
  | .rolAbsx _ => 0x3E
  | .rorAcc => 0x6A
  | .rorZp _ => 0x66
  | .rorZpx _ => 0x76
  | .rorAbs _ => 0x6E
  | .rorAbsx _ => 0x7E
  | .bcc _ => 0x90
  | .bcs _ => 0xB0
  | .beq _ => 0xF0
  | .bmi _ => 0x30
  | .bne _ => 0xD0
  | .bpl _ => 0x10
  | .bvc _ => 0x50
  | .bvs _ => 0x70
  | .jmpAbs _ => 0x4C
  | .jmpInd _ => 0x6C
  | .jsr _ => 0x20
  | .rts => 0x60
  | .pha => 0x48
  | .php => 0x08
  | .pla => 0x68
  | .plp => 0x28
  | .clc => 0x18
  | .cld => 0xD8
  | .cli => 0x58
  | .clv => 0xB8
  | .sec => 0x38
  | .sed => 0xF8
  | .sei => 0x78
  | .nop => 0xEA
  | .brk => 0x00
  | .rti => 0x40
  | .unimplemented op => op

/-- The operand bytes of an instruction, in the order of their addresses: a 16-bit operand low byte first
(R140, R108). -/
def Instr.operands : Instr → List Byte
  | .ldaImm b | .ldaZp b | .ldaZpx b | .ldaIndx b | .ldaIndy b | .ldxImm b | .ldxZp b | .ldxZpy b | .ldyImm b
  | .ldyZp b | .ldyZpx b | .staZp b | .staZpx b | .staIndx b | .staIndy b | .stxZp b | .stxZpy b | .styZp b
  | .styZpx b | .adcImm b | .adcZp b | .adcZpx b | .adcIndx b | .adcIndy b | .sbcImm b | .sbcZp b | .sbcZpx b
  | .sbcIndx b | .sbcIndy b | .andImm b | .andZp b | .andZpx b | .andIndx b | .andIndy b | .oraImm b
  | .oraZp b | .oraZpx b | .oraIndx b | .oraIndy b | .eorImm b | .eorZp b | .eorZpx b | .eorIndx b
  | .eorIndy b | .bitZp b | .cmpImm b | .cmpZp b | .cmpZpx b | .cmpIndx b | .cmpIndy b | .cpxImm b | .cpxZp b
  | .cpyImm b | .cpyZp b | .incZp b | .incZpx b | .decZp b | .decZpx b | .aslZp b | .aslZpx b | .lsrZp b
  | .lsrZpx b | .rolZp b | .rolZpx b | .rorZp b | .rorZpx b | .bcc b | .bcs b | .beq b | .bmi b | .bne b
  | .bpl b | .bvc b | .bvs b | .jsr b => [b]
  | .ldaAbs w | .ldaAbsx w | .ldaAbsy w | .ldxAbs w | .ldxAbsy w | .ldyAbs w | .ldyAbsx w | .staAbs w
  | .staAbsx w | .staAbsy w | .stxAbs w | .styAbs w | .adcAbs w | .adcAbsx w | .adcAbsy w | .sbcAbs w
  | .sbcAbsx w | .sbcAbsy w | .andAbs w | .andAbsx w | .andAbsy w | .oraAbs w | .oraAbsx w | .oraAbsy w
  | .eorAbs w | .eorAbsx w | .eorAbsy w | .bitAbs w | .cmpAbs w | .cmpAbsx w | .cmpAbsy w | .cpxAbs w
  | .cpyAbs w | .incAbs w | .incAbsx w | .decAbs w | .decAbsx w | .aslAbs w | .aslAbsx w | .lsrAbs w
  | .lsrAbsx w | .rolAbs w | .rolAbsx w | .rorAbs w | .rorAbsx w | .jmpAbs w | .jmpInd w => [lo8 w, hi8 w]
  | .tax | .tay | .tsx | .txa | .txs | .tya | .inx | .iny | .dex | .dey | .aslAcc | .lsrAcc | .rolAcc
  | .rorAcc | .rts | .pha | .php | .pla | .plp | .clc | .cld | .cli | .clv | .sec | .sed | .sei | .nop | .brk
  | .rti => []
  | .unimplemented _ => []

/-- The bytes the decoder reads an instruction from. For JSR they stop after the low operand byte, and for BRK
before the padding byte: those bytes are fetched by the instruction's own execution (R361, R420). -/
def encode (i : Instr) : List Byte := i.opcode :: i.operands

/-- The Instruction Record of an instruction (R162), none for an unimplemented one. -/
def Instr.row (i : Instr) : Option Row := rowOf i.opcode

/-- The mnemonic of an instruction as the opcode table spells it. -/
def Instr.mnemonic (i : Instr) : String :=
  match i.row with
  | some r => r.mnemonic
  | none => "UNIMPLEMENTED"

end Sys2Proof
end

