-- ==== Sys2Proof/Machine/State.lean ====
section
/-! DEFINITION. The state of CORE and of the bus attached to it, as plain data (10_state.md, 20_memory.md), the
reasons a step stops, and the state right after reset. -/

namespace Sys2Proof.Machine

/-- The seven stored status flags (R46). The unused bit is a constant 1 and is not stored (R54). -/
structure Flags where
  /-- Negative (R47). -/
  n : Bool
  /-- Overflow (R48). -/
  v : Bool
  /-- Break: 0 after reset, and written by no instruction (R49). -/
  b : Bool
  /-- Decimal: stored, but it changes no arithmetic (R50). -/
  d : Bool
  /-- Interrupt-disable (R51). -/
  i : Bool
  /-- Zero (R52). -/
  z : Bool
  /-- Carry (R53). -/
  c : Bool
  deriving DecidableEq, Repr

/-- The fatal condition recorded by R440: the opcode byte and the address it was fetched from. -/
structure CoreFault where
  op : Byte
  pc : Word
  deriving DecidableEq, Repr

/-- Memory contents: (address, byte) pairs, addresses strictly rising, no byte equal to what an unlisted address
reads as (Memory.wf in Ops.lean). -/
abbrev Memory := List Host.Cell

/-- What answers in a region of the bus (20_memory.md R101, R106). -/
inductive RegionKind where
  /-- Read and write memory. -/
  | ram
  /-- Read-only memory: it reads as the bytes it holds until a write reaches it. What that write does is the bus's (R101), so
  from then on its reads are free values. -/
  | rom
  /-- Device registers: reads give free values, writes may report a stall. A bus of which nothing is known but its two
  functions (R100, R101) is one region of this kind. -/
  | device
  deriving DecidableEq, Repr

/-- A region of the bus: the addresses from `base` on, `size` of them, which repeat every `period` bytes
("mirrored every 0x0800", R106). -/
structure Region where
  base : Nat
  size : Nat
  period : Nat
  kind : RegionKind
  deriving DecidableEq, Repr

/-- The parameter OPEN_BUS_POLICY (R103: "last driven value or zero"). -/
inductive OpenBusPolicy where
  | zero
  | lastDriven
  deriving DecidableEq, Repr

/-- The bus behind CORE's bus port, with the devices it reaches (R70, R100, R101). -/
structure Bus where
  /-- The address decode. The first region that holds an address answers, and an address in none is open bus. -/
  map : List Region
  /-- The contents of RAM and ROM. -/
  mem : Memory
  /-- What a read that nothing answers returns. -/
  openBus : OpenBusPolicy
  /-- The last value driven on the data bus. -/
  lastDriven : Byte
  /-- The state of the devices behind the bus: every access they have seen, the latest first (log 4). -/
  accesses : List BusAccess
  deriving DecidableEq, Repr

/-- The state of the machine at an instruction boundary, and while an instruction executes. -/
structure State where
  /-- Accumulator (R41). -/
  a : Byte
  /-- Index register X (R42). -/
  x : Byte
  /-- Index register Y (R43). -/
  y : Byte
  /-- Stack pointer (R44). -/
  sp : Byte
  /-- Program counter (R45). -/
  pc : Word
  /-- Status flags (R46). -/
  p : Flags
  /-- Cycle counter CYC, unbounded (R58). -/
  cyc : Nat
  /-- The latched non-maskable interrupt request (R59). -/
  nmiLatch : Bool
  /-- The level of the maskable interrupt request line (R60). -/
  irqLine : Bool
  /-- The interrupt-disable value the next boundary's check uses (R61). -/
  iPoll : Bool
  /-- The fatal condition, once an unimplemented opcode has been fetched (R63). -/
  fault : Option CoreFault
  /-- Whether a bus has been attached (R71). -/
  busAttached : Bool
  /-- The attached bus. -/
  bus : Bus
  deriving DecidableEq, Repr

/-- Why a step has no transition because the machine itself has stopped. -/
inductive Fault where
  /-- Raised by `step` in a state whose `fault` is recorded: an unimplemented opcode was fetched earlier, and the
  core is stuck for good (R63, R440, D20). Safe: the spec gives no transition here either. -/
  | unimplementedOpcode (op : Byte) (pc : Word)
  deriving DecidableEq, Repr

/-- Why the model gives no transition without the machine having stopped. -/
inductive Refusal where
  /-- Raised by `step` and by `hostReset` in a state with no bus attached: a host error the spec refuses
  (R71, D17). Safe: the spec gives no transition here either. -/
  | noBusAttached
  /-- Raised by an arm of `exec` whose instruction has no meaning yet. No arm raises it now. Safe. -/
  | notModelled (mnemonic : String)
  deriving DecidableEq, Repr

/-- What executing an instruction, a step, or a host action answers. -/
abbrev Result := Host.Outcome State Fault Refusal

/-- The address decode of the reference bus of R105: 64 KiB of RAM and nothing else. -/
def flatMap : List Region := [⟨0x0000, 0x10000, 0x10000, .ram⟩]

/-- The address decode of the console's bus (R106). Cartridge space is the mapper's, so it answers as a device
(log 17). -/
def consoleMap : List Region :=
  [⟨0x0000, 0x2000, 0x0800, .ram⟩,
   ⟨0x2000, 0x2000, 0x0008, .device⟩,
   ⟨0x4000, 0x0020, 0x0020, .device⟩,
   ⟨0x4020, 0xBFE0, 0xBFE0, .device⟩]

/-- The address decode of a bus that leaves every address to its own two functions (R100, R101): each read is a free value
of all accesses before it, and each write one more of them. -/
def anyMap : List Region := [⟨0x0000, 0x10000, 0x10000, .device⟩]

/-- The reference bus with nothing listed in memory (R105; DESIGN CHOICE, log 2, 3, 6). -/
def Bus.flat : Bus := ⟨flatMap, [], .zero, 0x00, []⟩

/-- The console's bus with nothing listed in memory (R106). -/
def Bus.console : Bus := ⟨consoleMap, [], .zero, 0x00, []⟩

/-- The power-on state, before a bus is attached and before reset (R77, R501). -/
def State.powerOn : State where
  a := 0x00
  x := 0x00
  y := 0x00
  sp := 0x00
  pc := 0x0000
  p := ⟨false, false, false, false, false, false, false⟩
  cyc := 0
  nmiLatch := false
  irqLine := false
  iPoll := true
  fault := none
  busAttached := false
  bus := Bus.flat

/-- The machine right after reset (R77, R500): power-on, the reference bus attached, the reset sequence. Its memory
lists nothing, so the reset vector reads 0x0000. -/
def State.reset : State where
  a := 0x00
  x := 0x00
  y := 0x00
  sp := 0xFD
  pc := 0x0000
  p := ⟨false, false, false, false, true, false, false⟩
  cyc := 7
  nmiLatch := false
  irqLine := false
  iPoll := true
  fault := none
  busAttached := true
  bus := Bus.flat

end Sys2Proof.Machine
end

