-- ==== Sys2Proof/Machine/Flags.lean ====
section
/-! DEFINITION. The flag computations and the 8-bit arithmetic they belong to (10_state.md section 2, 41, 43, 45):
every rule that writes a flag from a result is here once. -/

namespace Sys2Proof.Machine

/-- `SetNZ(r)`: N from bit 7 of the result, Z from the result being 0 (00_scope.md R10). -/
def setNZ (r : Byte) (p : Flags) : Flags := { p with n := r.getLsbD 7, z := r == 0#8 }

/-- `Pack(b)`: the flags as a byte, bit 5 a constant 1 and bit 4 the given value (R55). -/
def pack (b : Bool) (p : Flags) : Byte :=
  BitVec.ofNat 8 (p.n.toNat * 0x80 + p.v.toNat * 0x40 + 0x20 + b.toNat * 0x10 + p.d.toNat * 0x08
    + p.i.toNat * 0x04 + p.z.toNat * 0x02 + p.c.toNat * 0x01)

/-- `Unpack(r)`: N, V, D, I, Z, C from a pulled byte. Bits 5 and 4 are discarded, and B keeps its value (R56). -/
def unpack (r : Byte) (p : Flags) : Flags where
  n := r.getLsbD 7
  v := r.getLsbD 6
  b := p.b
  d := r.getLsbD 3
  i := r.getLsbD 2
  z := r.getLsbD 1
  c := r.getLsbD 0

/-- The binary adder shared by ADC and SBC: `Add(a, b, c)` with the carry flag as carry-in (R239). D is not read. -/
def adder (a b : Byte) (p : Flags) : Byte × Flags :=
  let s := a.toNat + b.toNat + p.c.toNat
  let r := BitVec.ofNat 8 s
  (r, setNZ r { p with c := decide (s > 255), v := ((a ^^^ r) &&& (b ^^^ r)).getLsbD 7 })

/-- `not8(v)` is `255 - v` (R8). -/
def not8 (v : Byte) : Byte := 255#8 - v

/-- The comparator shared by CMP, CPX and CPY (R280): an implied subtraction with no carry-in, not stored. -/
def compareFlags (r m : Byte) (p : Flags) : Flags :=
  { p with n := (r - m).getLsbD 7, z := r == m, c := decide (m.toNat ≤ r.toNat) }

/-- BIT: N and V from bits 7 and 6 of the operand, Z from `A and M` (R263). -/
def bitFlags (a m : Byte) (p : Flags) : Flags :=
  { p with n := m.getLsbD 7, v := m.getLsbD 6, z := (a &&& m) == 0#8 }

/-- The end of `Shift`: carry takes the bit shifted out, N and Z the result (R320). -/
def shifted (r : Byte) (out : Bool) (p : Flags) : Byte × Flags := (r, setNZ r { p with c := out })

/-- ASL: `((M * 2) mod 256, M[7])` (R321). -/
def aslByte (m : Byte) (p : Flags) : Byte × Flags := shifted (m <<< 1) (m.getLsbD 7) p

/-- LSR: `(M div 2, M[0])` (R322). -/
def lsrByte (m : Byte) (p : Flags) : Byte × Flags := shifted (m >>> 1) (m.getLsbD 0) p

/-- ROL: `((M * 2 + C) mod 256, M[7])` (R323). -/
def rolByte (m : Byte) (p : Flags) : Byte × Flags :=
  shifted ((m <<< 1) + BitVec.ofNat 8 p.c.toNat) (m.getLsbD 7) p

/-- ROR: `(M div 2 + C * 128, M[0])` (R324). -/
def rorByte (m : Byte) (p : Flags) : Byte × Flags :=
  shifted ((m >>> 1) + BitVec.ofNat 8 (p.c.toNat * 128)) (m.getLsbD 0) p

/-- INC: `(M + 1) mod 256` with N and Z (R300). -/
def incByte (m : Byte) (p : Flags) : Byte × Flags := (m + 1#8, setNZ (m + 1#8) p)

/-- DEC: `(M - 1) mod 256` with N and Z (R301). -/
def decByte (m : Byte) (p : Flags) : Byte × Flags := (m - 1#8, setNZ (m - 1#8) p)

end Sys2Proof.Machine
end

