-- ==== Sys2Proof/Machine/Ops.lean ====
section
/-! DEFINITION. The named operations over memory, the bus and the registers: memory in canonical form, the bus
primitives (20_memory.md R100 to R106), fetch and stack (R10, R110, R111), the end of an instruction
(30_encoding.md R180, R181, 10_state.md R62), taking an interrupt and returning from one (60_exceptions.md R451,
49_flags_system.md R421), the fatal fault (R440), and the reset sequence (70_reset_and_hazards.md R500). -/

namespace Sys2Proof.Machine

/-! ## Memory contents -/

/-- What an address that memory does not list reads as (DESIGN CHOICE, log 3). -/
def unlistedByte : Byte := 0x00

/-- The byte at an address. -/
def Memory.read : Memory → Nat → Byte
  | [], _ => unlistedByte
  | (k, v) :: rest, a => if k = a then v else Memory.read rest a

/-- Put a byte at an address, keeping the canonical form. -/
def Memory.write : Memory → Nat → Byte → Memory
  | [], a, v => if v = unlistedByte then [] else [(a, v)]
  | (k, w) :: rest, a, v =>
    if a < k then (if v = unlistedByte then (k, w) :: rest else (a, v) :: (k, w) :: rest)
    else if a = k then (if v = unlistedByte then rest else (a, v) :: rest)
    else (k, w) :: Memory.write rest a v

/-- Whether every address of a memory is at least `lo`, and they rise strictly, lie in the 16-bit space, and hold
no byte equal to what an unlisted address reads as. -/
def Memory.wfFrom : Nat → Memory → Bool
  | _, [] => true
  | lo, (k, v) :: rest => decide (lo ≤ k) && decide (k < 0x10000) && (v != unlistedByte) && Memory.wfFrom (k + 1) rest

/-- The canonical form of memory. -/
def Memory.wf (m : Memory) : Bool := Memory.wfFrom 0 m

/-! ## The bus -/

/-- The kind of the region an address lies in, and the address it stands for there once mirroring is undone (R106).
None is an address with no device driving it. -/
def locate : List Region → Nat → Option (RegionKind × Nat)
  | [], _ => none
  | r :: rest, a =>
    if r.base ≤ a ∧ a < r.base + r.size then some (r.kind, r.base + (a - r.base) % r.period) else locate rest a

/-- The place on the bus an address designates: what answers there, and the address with mirroring undone. -/
def Bus.place (b : Bus) (addr : Word) : Option (RegionKind × Nat) := locate b.map addr.toNat

/-- The cell an address stands for. Two addresses with the same cell are mirrors of one another (R106, R13). -/
def Bus.cell (b : Bus) (addr : Word) : Option Nat := (b.place addr).map Prod.snd

/-- Whether an address lies in ROM. -/
def Bus.inRom (b : Bus) (addr : Word) : Bool :=
  match b.place addr with
  | some (.rom, _) => true
  | some (.ram, _) | some (.device, _) | none => false

/-- A write to `e` leaves what memory holds at `a` alone: the two stand for different cells, so that neither is a mirror of
the other (R13), and they do not both lie in ROM, where what a write does is the bus's (R101). On the flat bus these are
simply different addresses. -/
def Bus.Apart (b : Bus) (a e : Word) : Prop :=
  b.cell a ≠ b.cell e ∧ (b.inRom a = true → b.inRom e = false)

/-- Whether an access is a write to ROM. -/
def BusAccess.isRomWrite (x : BusAccess) : Bool :=
  match x.kind with
  | .romWrite _ => true
  | .read | .write _ => false

/-- Whether a write has reached ROM: what ROM reads as after that is the bus's (R101, log 19). -/
def Bus.romWritten (b : Bus) : Bool := b.accesses.any BusAccess.isRomWrite

/-- The byte that RAM or ROM holds at an address, none for a device register, an undriven address, and ROM once a write
has reached it. It is the model's read of one byte with no bus access. -/
def Bus.peek (b : Bus) (addr : Word) : Option Byte :=
  match b.place addr with
  | some (.ram, k) => some (b.mem.read k)
  | some (.rom, k) => if b.romWritten then none else some (b.mem.read k)
  | some (.device, _) | none => none

/-- The open-bus value (R103). -/
def Bus.openValue (b : Bus) : Byte :=
  match b.openBus with
  | .zero => 0x00
  | .lastDriven => b.lastDriven

/-- The devices behind the bus see an access, which drives a byte. -/
def Bus.seen (b : Bus) (kind : AccessKind) (k : Nat) (driven : Byte) : Bus :=
  { b with lastDriven := driven, accesses := ⟨kind, BitVec.ofNat 16 k, b.mem⟩ :: b.accesses }

/-- A read that memory answers. -/
def Bus.readMemory (b : Bus) (k : Nat) : Byte × Bus := (b.mem.read k, { b with lastDriven := b.mem.read k })

/-- A read that a device answers, from every access it has seen: the value is free (R100, log 4). -/
def Bus.readDevice (b : Bus) (k : Nat) : Byte × Bus :=
  let v := Config.deviceRead b.accesses b.mem (BitVec.ofNat 16 k)
  (v, b.seen .read k v)

/-- `read : σ → u16 → u8 × σ` (R100). -/
def Bus.read (b : Bus) (addr : Word) : Byte × Bus :=
  match b.place addr with
  | some (.ram, k) => b.readMemory k
  | some (.rom, k) => if b.romWritten then b.readDevice k else b.readMemory k
  | some (.device, k) => b.readDevice k
  | none => (b.openValue, { b with lastDriven := b.openValue })

/-- The cycles of a reported stall (R104). -/
def stallCycles : DmaStall → Nat
  | .none => 0
  | .short => 513
  | .long => 514

/-- `write : σ → u16 → u8 → σ × Nat`, the number being the stall cycles the write reports (R101, R104). `cyc` is CYC,
which the parameter DMA_STALL may read. What a write to a device register or to ROM does is the bus's, so the devices see
it whole (R101). A write to an undriven address is ignored (R441). -/
def Bus.write (b : Bus) (cyc : Nat) (addr : Word) (v : Byte) : Bus × Nat :=
  match b.place addr with
  | some (.ram, k) => ({ b with mem := b.mem.write k v, lastDriven := v }, 0)
  | some (.device, k) =>
    (b.seen (.write v) k v, stallCycles (Config.dmaStall b.accesses (BitVec.ofNat 16 k) v cyc))
  | some (.rom, k) => (b.seen (.romWrite v) k v, 0)
  | none => ({ b with lastDriven := v }, 0)

/-! ## Named updates of the state -/

/-- `A <- v`. -/
def State.setA (s : State) (v : Byte) : State := { s with a := v }
/-- `X <- v`. -/
def State.setX (s : State) (v : Byte) : State := { s with x := v }
/-- `Y <- v`. -/
def State.setY (s : State) (v : Byte) : State := { s with y := v }
/-- `SP <- v`. -/
def State.setSP (s : State) (v : Byte) : State := { s with sp := v }
/-- `PC <- v`. -/
def State.setPC (s : State) (v : Word) : State := { s with pc := v }
/-- Write the status flags. -/
def State.setP (s : State) (v : Flags) : State := { s with p := v }
/-- `i_poll <- v`. -/
def State.setIPoll (s : State) (v : Bool) : State := { s with iPoll := v }
/-- `nmi_latch <- v`. -/
def State.setNmi (s : State) (v : Bool) : State := { s with nmiLatch := v }
/-- `irq_line <- v`. -/
def State.setIrq (s : State) (v : Bool) : State := { s with irqLine := v }
/-- Record the fatal condition. -/
def State.setFault (s : State) (v : Option CoreFault) : State := { s with fault := v }
/-- `CYC <- CYC + n`. -/
def State.addCycles (s : State) (n : Nat) : State := { s with cyc := s.cyc + n }
/-- Attach or detach the bus. -/
def State.setAttached (s : State) (v : Bool) : State := { s with busAttached := v }
/-- The bus and its devices go to a new state. -/
def State.setBus (s : State) (b : Bus) : State := { s with bus := b }

/-! ## Bus primitives of CORE -/

/-- A byte obtained from the bus, and the state after the access. -/
structure Fetched where
  value : Byte
  state : State

/-- The state after a write to the bus, and the stall cycles it reported. -/
structure Written where
  state : State
  stall : Nat

/-- `zext_16(b)` (R8). -/
def zext16 (b : Byte) : Word := b.setWidth 16

/-- `sext_16(b)` (R8). -/
def sext16 (b : Byte) : Word := b.signExtend 16

/-- `page(a)` is `a[15:8]` (R8). -/
def page (a : Word) : Byte := hi8 a

/-- `MemRead(addr, 1)` (R100). -/
def memRead (s : State) (addr : Word) : Fetched :=
  let r := s.bus.read addr
  ⟨r.1, s.setBus r.2⟩

/-- `MemWrite(addr, 1, v)` (R101). -/
def memWrite (s : State) (addr : Word) (v : Byte) : Written :=
  let r := s.bus.write s.cyc addr v
  ⟨s.setBus r.1, r.2⟩

/-- `FetchByte()`: read the byte at PC and advance PC by 1 mod 65536 (R10, R45). -/
def fetchByte (s : State) : Fetched :=
  let r := memRead s s.pc
  ⟨r.value, r.state.setPC (s.pc + 1#16)⟩

/-- The address in the stack page that a stack pointer designates (R44). -/
def stackAddr (sp : Byte) : Word := 0x0100#16 + zext16 sp

/-- `Push(v)`: write at 0x0100 + SP, then decrement SP mod 256 (R110). -/
def push (s : State) (v : Byte) : Written :=
  let w := memWrite s (stackAddr s.sp) v
  ⟨w.state.setSP (s.sp - 1#8), w.stall⟩

/-- `Pull()`: increment SP mod 256, then read at 0x0100 + SP (R111). -/
def pull (s : State) : Fetched :=
  memRead (s.setSP (s.sp + 1#8)) (stackAddr (s.sp + 1#8))

/-- Push a 16-bit value, high byte first (R108, R361, R451). -/
def pushWord (s : State) (v : Word) : Written :=
  let h := push s (hi8 v)
  let l := push h.state (lo8 v)
  ⟨l.state, h.stall + l.stall⟩

/-- A 16-bit value obtained from two byte accesses, and the state after them. -/
structure FetchedWord where
  value : Word
  state : State

/-- Pull a 16-bit value, low byte first (R362, R421). -/
def pullWord (s : State) : FetchedWord :=
  let l := pull s
  let h := pull l.state
  ⟨cat16 h.value l.value, h.state⟩

/-- Read a 16-bit value from two addresses, the low byte first (R108, R109). -/
def readWord (s : State) (loAddr hiAddr : Word) : FetchedWord :=
  let l := memRead s loAddr
  let h := memRead l.state hiAddr
  ⟨cat16 h.value l.value, h.state⟩

/-! ## The end of an instruction -/

/-- Account and Interrupt Check (R180, R181): add the step's cycles to CYC, and let the next boundary sample the given
interrupt-disable value (R62). -/
def finishWith (poll : Bool) (s : State) (cycles : Nat) : Result :=
  .next ((s.addCycles cycles).setIPoll poll)

/-- The end of every instruction but CLI, SEI and PLP: the next boundary samples I as the instruction left it (R62). -/
def finish (s : State) (cycles : Nat) : Result := finishWith s.p.i s cycles

/-! ## Exceptions -/

/-- The two interrupt request classes serviced at a boundary (R442, R446). -/
inductive InterruptKind where
  | nmi
  | irq
  deriving DecidableEq, Repr

/-- The NMI vector (R452). -/
def nmiVector : Word := 0xFFFA#16
/-- The reset vector (R452). -/
def resetVector : Word := 0xFFFC#16
/-- The vector IRQ and BRK share (R452). -/
def irqVector : Word := 0xFFFE#16

/-- Taking an exception, the one operation NMI, IRQ and BRK share (R451, R420): push PC high byte, PC low byte and the
packed status with the given Break bit, set I, and load PC from the vector. -/
def takeException (breakBit : Bool) (vector : Word) (s : State) : Written :=
  let w := pushWord s s.pc
  let q := push w.state (pack breakBit s.p)
  let v := readWord (q.state.setP { s.p with i := true }) vector (vector + 1#16)
  ⟨v.state.setPC v.value, w.stall + q.stall⟩

/-- Returning from an exception (R421, R455): pull the status, then PC, low byte first. -/
def returnFromException (s : State) : State :=
  let p := pull s
  let w := pullWord (p.state.setP (unpack p.value s.p))
  w.state.setPC w.value

/-- The interrupt sequence for NMI and IRQ: 7 cycles and any stall a push reported. NMI clears its latch (R451). -/
def interruptSequence (kind : InterruptKind) (s : State) : Result :=
  match kind with
  | .nmi =>
    let w := takeException false nmiVector s
    finish (w.state.setNmi false) (7 + w.stall)
  | .irq =>
    let w := takeException false irqVector s
    finish w.state (7 + w.stall)

/-- The interrupt a boundary services, if any: a latched NMI whatever I holds, else an asserted IRQ that the polled
interrupt-disable value does not mask (R446, R447). -/
def pendingInterrupt (s : State) : Option InterruptKind :=
  if s.nmiLatch then some .nmi else if s.irqLine && !s.iPoll then some .irq else none

/-- The fatal fault (R440): record the opcode and its address, and leave PC at the opcode. Nothing else changes. -/
def raiseUnimplemented (op : Byte) (pc : Word) (s : State) : State := (s.setFault (some ⟨op, pc⟩)).setPC pc

/-- The reset sequence (R500), for a core with a bus attached. `irq_line` and `fault` are not changed. -/
def resetSequence (s : State) : State :=
  let s1 := (((s.setA 0x00).setX 0x00).setY 0x00).setP ⟨false, false, false, false, true, false, false⟩
  let v := readWord (s1.setSP 0xFD) resetVector (resetVector + 1#16)
  (((v.state.setPC v.value).setNmi false).setIPoll true).addCycles 7

/-- The packed status a getter and the trace show: `Pack(B)` (R55, R74). -/
def State.status (s : State) : Byte := pack s.p.b s.p

end Sys2Proof.Machine
end

