-- ==== Sys2Proof/Machine/Operands.lean ====
section
/-! DEFINITION. The address resolver (30_encoding.md R142 to R155) and the operand access of each instruction class
(R156, R181 to R183). An instruction is executed after the decoder has consumed its operand bytes, so here an
addressing mode carries those bytes and PC is the address of the next instruction (log 7). -/

namespace Sys2Proof.Machine

/-- The addressing modes that resolve to an effective address in memory, with their operand. -/
inductive MemMode where
  | zp (a : Byte)
  | zpx (a : Byte)
  | zpy (a : Byte)
  | abs (a : Word)
  | absx (a : Word)
  | absy (a : Word)
  | ind (p : Word)
  | indx (z : Byte)
  | indy (z : Byte)
  deriving DecidableEq, Repr

/-- The operand of a read-class instruction: the immediate byte, or a place in memory (R144, R156). -/
inductive Operand where
  | imm (v : Byte)
  | mem (m : MemMode)
  deriving DecidableEq, Repr

/-- The Addressing Resolution Result (R142): the effective address, whether a page was crossed, and the state after
the pointer reads of the mode. -/
structure Resolution where
  ea : Word
  crossed : Bool
  state : State

/-- `base + index` mod 65536, crossed when the high byte changes (R149, R150, R151, R154). -/
def indexed (base : Word) (index : Byte) (s : State) : Resolution :=
  ⟨base + zext16 index, page base != page (base + zext16 index), s⟩

/-- The address resolver for the memory modes. -/
def resolve (m : MemMode) (s : State) : Resolution :=
  match m with
  | .zp a => ⟨zext16 a, false, s⟩
  | .zpx a => ⟨zext16 (a + s.x), false, s⟩
  | .zpy a => ⟨zext16 (a + s.y), false, s⟩
  | .abs a => ⟨a, false, s⟩
  | .absx a => indexed a s.x s
  | .absy a => indexed a s.y s
  | .ind p =>
    let w := readWord s p (cat16 (hi8 p) (lo8 p + 1#8))
    ⟨w.value, false, w.state⟩
  | .indx z =>
    let w := readWord s (zext16 (z + s.x)) (zext16 (z + s.x + 1#8))
    ⟨w.value, false, w.state⟩
  | .indy z =>
    let w := readWord s (zext16 z) (zext16 (z + 1#8))
    indexed w.value s.y w.state

/-- The operand of a read-class instruction once it is read: its value, whether a page was crossed, and the state
after the accesses. -/
structure OperandValue where
  value : Byte
  crossed : Bool
  state : State

/-- Read the operand of a read-class instruction: the immediate byte itself, or one read at the effective address
(R144, R156). -/
def readOperand (o : Operand) (s : State) : OperandValue :=
  match o with
  | .imm v => ⟨v, false, s⟩
  | .mem m =>
    let r := resolve m s
    let b := memRead r.state r.ea
    ⟨b.value, r.crossed, b.state⟩

/-- One more cycle for a read-class access that crossed a page (R182). -/
def pagePenalty (crossed : Bool) : Nat := if crossed then 1 else 0

/-- Class `read`: read the operand once, apply the instruction's effect, and pay the page penalty (R156, R182). -/
def readClass (o : Operand) (base : Nat) (effect : Byte → State → State) (s : State) : Result :=
  let r := readOperand o s
  finish (effect r.value r.state) (base + pagePenalty r.crossed)

/-- Class `write`: one write at the effective address, which is not read. The cycle count is fixed (R156, R182). -/
def writeClass (m : MemMode) (base : Nat) (v : Byte) (s : State) : Result :=
  let r := resolve m s
  let w := memWrite r.state r.ea v
  finish w.state (base + w.stall)

/-- Class `rmw`: one read at the effective address, then one write of the result. The cycle count is fixed
(R156, R182, R320). -/
def rmwClass (m : MemMode) (base : Nat) (f : Byte → Flags → Byte × Flags) (s : State) : Result :=
  let r := resolve m s
  let b := memRead r.state r.ea
  let w := memWrite b.state r.ea (f b.value s.p).1
  finish (w.state.setP (f b.value s.p).2) (base + w.stall)

/-- Class `acc`: operand and result in A, no bus access (R156, R320). -/
def accClass (base : Nat) (f : Byte → Flags → Byte × Flags) (s : State) : Result :=
  finish ((s.setA (f s.a s.p).1).setP (f s.a s.p).2) base

/-- The target of a relative branch, and whether it lies in another page than the next instruction, whose address
PC holds (R155). -/
def branchTarget (off : Byte) (s : State) : Resolution :=
  ⟨s.pc + sext16 off, page s.pc != page (s.pc + sext16 off), s⟩

/-- The cycles a branch adds to its base (R183). -/
def branchExtra (taken crossed : Bool) : Nat := if taken then (if crossed then 2 else 1) else 0

/-- Class `branch`: `Branch(cond)` (R340). -/
def branchClass (cond : Bool) (off : Byte) (base : Nat) (s : State) : Result :=
  let r := branchTarget off s
  finish (if cond then s.setPC r.ea else s) (base + branchExtra cond r.crossed)

/-- `SetNZ` on the flags of a state. -/
def State.setNZ (s : State) (r : Byte) : State := s.setP (Sys2Proof.Machine.setNZ r s.p)

end Sys2Proof.Machine
end

