-- ==== Sys2Proof/Machine/Arithmetic.lean ====
section
/-! DEFINITION. Add and subtract with carry (41_arithmetic.md R239 to R241). D is not read. -/

namespace Sys2Proof.Machine

/-- ADC: `A <- Add(A, M, C)` (R240). -/
def effectAdc (m : Byte) (s : State) : State := (s.setA (adder s.a m s.p).1).setP (adder s.a m s.p).2

/-- 0x69 ADC imm, 2 cycles: R240. -/
def execAdcImm (v : Byte) (s : State) : Result :=
  readClass (.imm v) 2 effectAdc s

/-- 0x65 ADC zp, 3 cycles: R240. -/
def execAdcZp (a : Byte) (s : State) : Result :=
  readClass (.mem (.zp a)) 3 effectAdc s

/-- 0x75 ADC zpx, 4 cycles: R240. -/
def execAdcZpx (a : Byte) (s : State) : Result :=
  readClass (.mem (.zpx a)) 4 effectAdc s

/-- 0x6D ADC abs, 4 cycles: R240. -/
def execAdcAbs (a : Word) (s : State) : Result :=
  readClass (.mem (.abs a)) 4 effectAdc s

/-- 0x7D ADC absx, 4 cycles (+1 if crossed): R240. -/
def execAdcAbsx (a : Word) (s : State) : Result :=
  readClass (.mem (.absx a)) 4 effectAdc s

/-- 0x79 ADC absy, 4 cycles (+1 if crossed): R240. -/
def execAdcAbsy (a : Word) (s : State) : Result :=
  readClass (.mem (.absy a)) 4 effectAdc s

/-- 0x61 ADC indx, 6 cycles: R240. -/
def execAdcIndx (z : Byte) (s : State) : Result :=
  readClass (.mem (.indx z)) 6 effectAdc s

/-- 0x71 ADC indy, 5 cycles (+1 if crossed): R240. -/
def execAdcIndy (z : Byte) (s : State) : Result :=
  readClass (.mem (.indy z)) 5 effectAdc s

/-- SBC: `A <- Add(A, not8(M), C)` (R241). -/
def effectSbc (m : Byte) (s : State) : State := (s.setA (adder s.a (not8 m) s.p).1).setP (adder s.a (not8 m) s.p).2

/-- 0xE9 SBC imm, 2 cycles: R241. -/
def execSbcImm (v : Byte) (s : State) : Result :=
  readClass (.imm v) 2 effectSbc s

/-- 0xE5 SBC zp, 3 cycles: R241. -/
def execSbcZp (a : Byte) (s : State) : Result :=
  readClass (.mem (.zp a)) 3 effectSbc s

/-- 0xF5 SBC zpx, 4 cycles: R241. -/
def execSbcZpx (a : Byte) (s : State) : Result :=
  readClass (.mem (.zpx a)) 4 effectSbc s

/-- 0xED SBC abs, 4 cycles: R241. -/
def execSbcAbs (a : Word) (s : State) : Result :=
  readClass (.mem (.abs a)) 4 effectSbc s

/-- 0xFD SBC absx, 4 cycles (+1 if crossed): R241. -/
def execSbcAbsx (a : Word) (s : State) : Result :=
  readClass (.mem (.absx a)) 4 effectSbc s

/-- 0xF9 SBC absy, 4 cycles (+1 if crossed): R241. -/
def execSbcAbsy (a : Word) (s : State) : Result :=
  readClass (.mem (.absy a)) 4 effectSbc s

/-- 0xE1 SBC indx, 6 cycles: R241. -/
def execSbcIndx (z : Byte) (s : State) : Result :=
  readClass (.mem (.indx z)) 6 effectSbc s

/-- 0xF1 SBC indy, 5 cycles (+1 if crossed): R241. -/
def execSbcIndy (z : Byte) (s : State) : Result :=
  readClass (.mem (.indy z)) 5 effectSbc s

end Sys2Proof.Machine
end

