-- ==== Sys2Proof/Machine/Branch.lean ====
section
/-! DEFINITION. Conditional branches (46_branch.md R340 to R348). -/

namespace Sys2Proof.Machine

/-- 0x90 BCC rel, 2 cycles: R341. -/
def execBcc (off : Byte) (s : State) : Result :=
  branchClass (!s.p.c) off 2 s

/-- 0xB0 BCS rel, 2 cycles: R342. -/
def execBcs (off : Byte) (s : State) : Result :=
  branchClass (s.p.c) off 2 s

/-- 0xF0 BEQ rel, 2 cycles: R343. -/
def execBeq (off : Byte) (s : State) : Result :=
  branchClass (s.p.z) off 2 s

/-- 0x30 BMI rel, 2 cycles: R344. -/
def execBmi (off : Byte) (s : State) : Result :=
  branchClass (s.p.n) off 2 s

/-- 0xD0 BNE rel, 2 cycles: R345. -/
def execBne (off : Byte) (s : State) : Result :=
  branchClass (!s.p.z) off 2 s

/-- 0x10 BPL rel, 2 cycles: R346. -/
def execBpl (off : Byte) (s : State) : Result :=
  branchClass (!s.p.n) off 2 s

/-- 0x50 BVC rel, 2 cycles: R347. -/
def execBvc (off : Byte) (s : State) : Result :=
  branchClass (!s.p.v) off 2 s

/-- 0x70 BVS rel, 2 cycles: R348. -/
def execBvs (off : Byte) (s : State) : Result :=
  branchClass (s.p.v) off 2 s

end Sys2Proof.Machine
end

