-- ==== Sys2Proof/Machine/Compare.lean ====
section
/-! DEFINITION. Compare (43_compare.md R280 to R283). No register is written. -/

namespace Sys2Proof.Machine

/-- CMP: `Compare(A, M)` (R281). -/
def effectCmp (m : Byte) (s : State) : State := s.setP (compareFlags s.a m s.p)

/-- 0xC9 CMP imm, 2 cycles: R281. -/
def execCmpImm (v : Byte) (s : State) : Result :=
  readClass (.imm v) 2 effectCmp s

/-- 0xC5 CMP zp, 3 cycles: R281. -/
def execCmpZp (a : Byte) (s : State) : Result :=
  readClass (.mem (.zp a)) 3 effectCmp s

/-- 0xD5 CMP zpx, 4 cycles: R281. -/
def execCmpZpx (a : Byte) (s : State) : Result :=
  readClass (.mem (.zpx a)) 4 effectCmp s

/-- 0xCD CMP abs, 4 cycles: R281. -/
def execCmpAbs (a : Word) (s : State) : Result :=
  readClass (.mem (.abs a)) 4 effectCmp s

/-- 0xDD CMP absx, 4 cycles (+1 if crossed): R281. -/
def execCmpAbsx (a : Word) (s : State) : Result :=
  readClass (.mem (.absx a)) 4 effectCmp s

/-- 0xD9 CMP absy, 4 cycles (+1 if crossed): R281. -/
def execCmpAbsy (a : Word) (s : State) : Result :=
  readClass (.mem (.absy a)) 4 effectCmp s

/-- 0xC1 CMP indx, 6 cycles: R281. -/
def execCmpIndx (z : Byte) (s : State) : Result :=
  readClass (.mem (.indx z)) 6 effectCmp s

/-- 0xD1 CMP indy, 5 cycles (+1 if crossed): R281. -/
def execCmpIndy (z : Byte) (s : State) : Result :=
  readClass (.mem (.indy z)) 5 effectCmp s

/-- CPX: `Compare(X, M)` (R282). -/
def effectCpx (m : Byte) (s : State) : State := s.setP (compareFlags s.x m s.p)

/-- 0xE0 CPX imm, 2 cycles: R282. -/
def execCpxImm (v : Byte) (s : State) : Result :=
  readClass (.imm v) 2 effectCpx s

/-- 0xE4 CPX zp, 3 cycles: R282. -/
def execCpxZp (a : Byte) (s : State) : Result :=
  readClass (.mem (.zp a)) 3 effectCpx s

/-- 0xEC CPX abs, 4 cycles: R282. -/
def execCpxAbs (a : Word) (s : State) : Result :=
  readClass (.mem (.abs a)) 4 effectCpx s

/-- CPY: `Compare(Y, M)` (R283). -/
def effectCpy (m : Byte) (s : State) : State := s.setP (compareFlags s.y m s.p)

/-- 0xC0 CPY imm, 2 cycles: R283. -/
def execCpyImm (v : Byte) (s : State) : Result :=
  readClass (.imm v) 2 effectCpy s

/-- 0xC4 CPY zp, 3 cycles: R283. -/
def execCpyZp (a : Byte) (s : State) : Result :=
  readClass (.mem (.zp a)) 3 effectCpy s

/-- 0xCC CPY abs, 4 cycles: R283. -/
def execCpyAbs (a : Word) (s : State) : Result :=
  readClass (.mem (.abs a)) 4 effectCpy s

end Sys2Proof.Machine
end

