-- ==== Sys2Proof/Machine/IncDec.lean ====
section
/-! DEFINITION. Increment and decrement (44_inc_dec.md R300 to R305). -/

namespace Sys2Proof.Machine

/-- 0xE6 INC zp, 5 cycles: R300. -/
def execIncZp (a : Byte) (s : State) : Result :=
  rmwClass (.zp a) 5 incByte s

/-- 0xF6 INC zpx, 6 cycles: R300. -/
def execIncZpx (a : Byte) (s : State) : Result :=
  rmwClass (.zpx a) 6 incByte s

/-- 0xEE INC abs, 6 cycles: R300. -/
def execIncAbs (a : Word) (s : State) : Result :=
  rmwClass (.abs a) 6 incByte s

/-- 0xFE INC absx, 7 cycles: R300. -/
def execIncAbsx (a : Word) (s : State) : Result :=
  rmwClass (.absx a) 7 incByte s

/-- 0xC6 DEC zp, 5 cycles: R301. -/
def execDecZp (a : Byte) (s : State) : Result :=
  rmwClass (.zp a) 5 decByte s

/-- 0xD6 DEC zpx, 6 cycles: R301. -/
def execDecZpx (a : Byte) (s : State) : Result :=
  rmwClass (.zpx a) 6 decByte s

/-- 0xCE DEC abs, 6 cycles: R301. -/
def execDecAbs (a : Word) (s : State) : Result :=
  rmwClass (.abs a) 6 decByte s

/-- 0xDE DEC absx, 7 cycles: R301. -/
def execDecAbsx (a : Word) (s : State) : Result :=
  rmwClass (.absx a) 7 decByte s

/-- 0xE8 INX imp, 2 cycles: R302. -/
def execInx (s : State) : Result :=
  finish ((s.setX (s.x + 1#8)).setNZ (s.x + 1#8)) 2

/-- 0xC8 INY imp, 2 cycles: R303. -/
def execIny (s : State) : Result :=
  finish ((s.setY (s.y + 1#8)).setNZ (s.y + 1#8)) 2

/-- 0xCA DEX imp, 2 cycles: R304. -/
def execDex (s : State) : Result :=
  finish ((s.setX (s.x - 1#8)).setNZ (s.x - 1#8)) 2

/-- 0x88 DEY imp, 2 cycles: R305. -/
def execDey (s : State) : Result :=
  finish ((s.setY (s.y - 1#8)).setNZ (s.y - 1#8)) 2

end Sys2Proof.Machine
end

