-- ==== Sys2Proof/Machine/Jump.lean ====
section
/-! DEFINITION. Jumps and subroutines (47_jump_subroutine.md R360 to R362). -/

namespace Sys2Proof.Machine

/-- 0x4C JMP abs, 3 cycles: R360. -/
def execJmpAbs (a : Word) (s : State) : Result :=
  finish ((resolve (.abs a) s).state.setPC (resolve (.abs a) s).ea) 3

/-- 0x6C JMP ind, 5 cycles: R360. -/
def execJmpInd (p : Word) (s : State) : Result :=
  finish ((resolve (.ind p) s).state.setPC (resolve (.ind p) s).ea) 5

/-- 0x20 JSR abs, 6 cycles: R361. PC holds the address of the high operand byte: it is the
return address less 1, and that byte is fetched after the pushes. -/
def execJsr (lo : Byte) (s : State) : Result :=
  let w := pushWord s s.pc
  let h := fetchByte w.state
  finish (h.state.setPC (cat16 h.value lo)) (6 + w.stall)

/-- 0x60 RTS imp, 6 cycles: R362. The pulled address is one less than the next instruction's. -/
def execRts (s : State) : Result :=
  let w := pullWord s
  finish (w.state.setPC (w.value + 1#16)) 6

end Sys2Proof.Machine
end

