-- ==== Sys2Proof/Machine/LoadStore.lean ====
section
/-! DEFINITION. Loads and stores (40_load_store_transfer.md R200 to R205). -/

namespace Sys2Proof.Machine

/-- LDA: `A <- M; SetNZ(A)` (R200). -/
def effectLda (m : Byte) (s : State) : State := (s.setA m).setNZ m

/-- 0xA9 LDA imm, 2 cycles: R200. -/
def execLdaImm (v : Byte) (s : State) : Result :=
  readClass (.imm v) 2 effectLda s

/-- 0xA5 LDA zp, 3 cycles: R200. -/
def execLdaZp (a : Byte) (s : State) : Result :=
  readClass (.mem (.zp a)) 3 effectLda s

/-- 0xB5 LDA zpx, 4 cycles: R200. -/
def execLdaZpx (a : Byte) (s : State) : Result :=
  readClass (.mem (.zpx a)) 4 effectLda s

/-- 0xAD LDA abs, 4 cycles: R200. -/
def execLdaAbs (a : Word) (s : State) : Result :=
  readClass (.mem (.abs a)) 4 effectLda s

/-- 0xBD LDA absx, 4 cycles (+1 if crossed): R200. -/
def execLdaAbsx (a : Word) (s : State) : Result :=
  readClass (.mem (.absx a)) 4 effectLda s

/-- 0xB9 LDA absy, 4 cycles (+1 if crossed): R200. -/
def execLdaAbsy (a : Word) (s : State) : Result :=
  readClass (.mem (.absy a)) 4 effectLda s

/-- 0xA1 LDA indx, 6 cycles: R200. -/
def execLdaIndx (z : Byte) (s : State) : Result :=
  readClass (.mem (.indx z)) 6 effectLda s

/-- 0xB1 LDA indy, 5 cycles (+1 if crossed): R200. -/
def execLdaIndy (z : Byte) (s : State) : Result :=
  readClass (.mem (.indy z)) 5 effectLda s

/-- LDX: `X <- M; SetNZ(X)` (R201). -/
def effectLdx (m : Byte) (s : State) : State := (s.setX m).setNZ m

/-- 0xA2 LDX imm, 2 cycles: R201. -/
def execLdxImm (v : Byte) (s : State) : Result :=
  readClass (.imm v) 2 effectLdx s

/-- 0xA6 LDX zp, 3 cycles: R201. -/
def execLdxZp (a : Byte) (s : State) : Result :=
  readClass (.mem (.zp a)) 3 effectLdx s

/-- 0xB6 LDX zpy, 4 cycles: R201. -/
def execLdxZpy (a : Byte) (s : State) : Result :=
  readClass (.mem (.zpy a)) 4 effectLdx s

/-- 0xAE LDX abs, 4 cycles: R201. -/
def execLdxAbs (a : Word) (s : State) : Result :=
  readClass (.mem (.abs a)) 4 effectLdx s

/-- 0xBE LDX absy, 4 cycles (+1 if crossed): R201. -/
def execLdxAbsy (a : Word) (s : State) : Result :=
  readClass (.mem (.absy a)) 4 effectLdx s

/-- LDY: `Y <- M; SetNZ(Y)` (R202). -/
def effectLdy (m : Byte) (s : State) : State := (s.setY m).setNZ m

/-- 0xA0 LDY imm, 2 cycles: R202. -/
def execLdyImm (v : Byte) (s : State) : Result :=
  readClass (.imm v) 2 effectLdy s

/-- 0xA4 LDY zp, 3 cycles: R202. -/
def execLdyZp (a : Byte) (s : State) : Result :=
  readClass (.mem (.zp a)) 3 effectLdy s

/-- 0xB4 LDY zpx, 4 cycles: R202. -/
def execLdyZpx (a : Byte) (s : State) : Result :=
  readClass (.mem (.zpx a)) 4 effectLdy s

/-- 0xAC LDY abs, 4 cycles: R202. -/
def execLdyAbs (a : Word) (s : State) : Result :=
  readClass (.mem (.abs a)) 4 effectLdy s

/-- 0xBC LDY absx, 4 cycles (+1 if crossed): R202. -/
def execLdyAbsx (a : Word) (s : State) : Result :=
  readClass (.mem (.absx a)) 4 effectLdy s

/-- 0x85 STA zp, 3 cycles: R203. -/
def execStaZp (a : Byte) (s : State) : Result :=
  writeClass (.zp a) 3 s.a s

/-- 0x95 STA zpx, 4 cycles: R203. -/
def execStaZpx (a : Byte) (s : State) : Result :=
  writeClass (.zpx a) 4 s.a s

/-- 0x8D STA abs, 4 cycles: R203. -/
def execStaAbs (a : Word) (s : State) : Result :=
  writeClass (.abs a) 4 s.a s

/-- 0x9D STA absx, 5 cycles: R203. -/
def execStaAbsx (a : Word) (s : State) : Result :=
  writeClass (.absx a) 5 s.a s

/-- 0x99 STA absy, 5 cycles: R203. -/
def execStaAbsy (a : Word) (s : State) : Result :=
  writeClass (.absy a) 5 s.a s

/-- 0x81 STA indx, 6 cycles: R203. -/
def execStaIndx (z : Byte) (s : State) : Result :=
  writeClass (.indx z) 6 s.a s

/-- 0x91 STA indy, 6 cycles: R203. -/
def execStaIndy (z : Byte) (s : State) : Result :=
  writeClass (.indy z) 6 s.a s

/-- 0x86 STX zp, 3 cycles: R204. -/
def execStxZp (a : Byte) (s : State) : Result :=
  writeClass (.zp a) 3 s.x s

/-- 0x96 STX zpy, 4 cycles: R204. -/
def execStxZpy (a : Byte) (s : State) : Result :=
  writeClass (.zpy a) 4 s.x s

/-- 0x8E STX abs, 4 cycles: R204. -/
def execStxAbs (a : Word) (s : State) : Result :=
  writeClass (.abs a) 4 s.x s

/-- 0x84 STY zp, 3 cycles: R205. -/
def execStyZp (a : Byte) (s : State) : Result :=
  writeClass (.zp a) 3 s.y s

/-- 0x94 STY zpx, 4 cycles: R205. -/
def execStyZpx (a : Byte) (s : State) : Result :=
  writeClass (.zpx a) 4 s.y s

/-- 0x8C STY abs, 4 cycles: R205. -/
def execStyAbs (a : Word) (s : State) : Result :=
  writeClass (.abs a) 4 s.y s

end Sys2Proof.Machine
end

