-- ==== Sys2Proof/Machine/Logical.lean ====
section
/-! DEFINITION. Logical operations and bit test (42_logical.md R260 to R263). -/

namespace Sys2Proof.Machine

/-- AND: `A <- A and M; SetNZ(A)` (R260). -/
def effectAnd (m : Byte) (s : State) : State := (s.setA (s.a &&& m)).setNZ (s.a &&& m)

/-- 0x29 AND imm, 2 cycles: R260. -/
def execAndImm (v : Byte) (s : State) : Result :=
  readClass (.imm v) 2 effectAnd s

/-- 0x25 AND zp, 3 cycles: R260. -/
def execAndZp (a : Byte) (s : State) : Result :=
  readClass (.mem (.zp a)) 3 effectAnd s

/-- 0x35 AND zpx, 4 cycles: R260. -/
def execAndZpx (a : Byte) (s : State) : Result :=
  readClass (.mem (.zpx a)) 4 effectAnd s

/-- 0x2D AND abs, 4 cycles: R260. -/
def execAndAbs (a : Word) (s : State) : Result :=
  readClass (.mem (.abs a)) 4 effectAnd s

/-- 0x3D AND absx, 4 cycles (+1 if crossed): R260. -/
def execAndAbsx (a : Word) (s : State) : Result :=
  readClass (.mem (.absx a)) 4 effectAnd s

/-- 0x39 AND absy, 4 cycles (+1 if crossed): R260. -/
def execAndAbsy (a : Word) (s : State) : Result :=
  readClass (.mem (.absy a)) 4 effectAnd s

/-- 0x21 AND indx, 6 cycles: R260. -/
def execAndIndx (z : Byte) (s : State) : Result :=
  readClass (.mem (.indx z)) 6 effectAnd s

/-- 0x31 AND indy, 5 cycles (+1 if crossed): R260. -/
def execAndIndy (z : Byte) (s : State) : Result :=
  readClass (.mem (.indy z)) 5 effectAnd s

/-- ORA: `A <- A or M; SetNZ(A)` (R261). -/
def effectOra (m : Byte) (s : State) : State := (s.setA (s.a ||| m)).setNZ (s.a ||| m)

/-- 0x09 ORA imm, 2 cycles: R261. -/
def execOraImm (v : Byte) (s : State) : Result :=
  readClass (.imm v) 2 effectOra s

/-- 0x05 ORA zp, 3 cycles: R261. -/
def execOraZp (a : Byte) (s : State) : Result :=
  readClass (.mem (.zp a)) 3 effectOra s

/-- 0x15 ORA zpx, 4 cycles: R261. -/
def execOraZpx (a : Byte) (s : State) : Result :=
  readClass (.mem (.zpx a)) 4 effectOra s

/-- 0x0D ORA abs, 4 cycles: R261. -/
def execOraAbs (a : Word) (s : State) : Result :=
  readClass (.mem (.abs a)) 4 effectOra s

/-- 0x1D ORA absx, 4 cycles (+1 if crossed): R261. -/
def execOraAbsx (a : Word) (s : State) : Result :=
  readClass (.mem (.absx a)) 4 effectOra s

/-- 0x19 ORA absy, 4 cycles (+1 if crossed): R261. -/
def execOraAbsy (a : Word) (s : State) : Result :=
  readClass (.mem (.absy a)) 4 effectOra s

/-- 0x01 ORA indx, 6 cycles: R261. -/
def execOraIndx (z : Byte) (s : State) : Result :=
  readClass (.mem (.indx z)) 6 effectOra s

/-- 0x11 ORA indy, 5 cycles (+1 if crossed): R261. -/
def execOraIndy (z : Byte) (s : State) : Result :=
  readClass (.mem (.indy z)) 5 effectOra s

/-- EOR: `A <- A xor M; SetNZ(A)` (R262). -/
def effectEor (m : Byte) (s : State) : State := (s.setA (s.a ^^^ m)).setNZ (s.a ^^^ m)

/-- 0x49 EOR imm, 2 cycles: R262. -/
def execEorImm (v : Byte) (s : State) : Result :=
  readClass (.imm v) 2 effectEor s

/-- 0x45 EOR zp, 3 cycles: R262. -/
def execEorZp (a : Byte) (s : State) : Result :=
  readClass (.mem (.zp a)) 3 effectEor s

/-- 0x55 EOR zpx, 4 cycles: R262. -/
def execEorZpx (a : Byte) (s : State) : Result :=
  readClass (.mem (.zpx a)) 4 effectEor s

/-- 0x4D EOR abs, 4 cycles: R262. -/
def execEorAbs (a : Word) (s : State) : Result :=
  readClass (.mem (.abs a)) 4 effectEor s

/-- 0x5D EOR absx, 4 cycles (+1 if crossed): R262. -/
def execEorAbsx (a : Word) (s : State) : Result :=
  readClass (.mem (.absx a)) 4 effectEor s

/-- 0x59 EOR absy, 4 cycles (+1 if crossed): R262. -/
def execEorAbsy (a : Word) (s : State) : Result :=
  readClass (.mem (.absy a)) 4 effectEor s

/-- 0x41 EOR indx, 6 cycles: R262. -/
def execEorIndx (z : Byte) (s : State) : Result :=
  readClass (.mem (.indx z)) 6 effectEor s

/-- 0x51 EOR indy, 5 cycles (+1 if crossed): R262. -/
def execEorIndy (z : Byte) (s : State) : Result :=
  readClass (.mem (.indy z)) 5 effectEor s

/-- BIT: N, V and Z from the operand and A, which is not written (R263). -/
def effectBit (m : Byte) (s : State) : State := s.setP (bitFlags s.a m s.p)

/-- 0x24 BIT zp, 3 cycles: R263. -/
def execBitZp (a : Byte) (s : State) : Result :=
  readClass (.mem (.zp a)) 3 effectBit s

/-- 0x2C BIT abs, 4 cycles: R263. -/
def execBitAbs (a : Word) (s : State) : Result :=
  readClass (.mem (.abs a)) 4 effectBit s

end Sys2Proof.Machine
end

