-- ==== Sys2Proof/Machine/Shift.lean ====
section
/-! DEFINITION. Shifts and rotates (45_shift_rotate.md R320 to R324). -/

namespace Sys2Proof.Machine

/-- 0x0A ASL acc, 2 cycles: R321. -/
def execAslAcc (s : State) : Result :=
  accClass 2 aslByte s

/-- 0x06 ASL zp, 5 cycles: R321. -/
def execAslZp (a : Byte) (s : State) : Result :=
  rmwClass (.zp a) 5 aslByte s

/-- 0x16 ASL zpx, 6 cycles: R321. -/
def execAslZpx (a : Byte) (s : State) : Result :=
  rmwClass (.zpx a) 6 aslByte s

/-- 0x0E ASL abs, 6 cycles: R321. -/
def execAslAbs (a : Word) (s : State) : Result :=
  rmwClass (.abs a) 6 aslByte s

/-- 0x1E ASL absx, 7 cycles: R321. -/
def execAslAbsx (a : Word) (s : State) : Result :=
  rmwClass (.absx a) 7 aslByte s

/-- 0x4A LSR acc, 2 cycles: R322. -/
def execLsrAcc (s : State) : Result :=
  accClass 2 lsrByte s

/-- 0x46 LSR zp, 5 cycles: R322. -/
def execLsrZp (a : Byte) (s : State) : Result :=
  rmwClass (.zp a) 5 lsrByte s

/-- 0x56 LSR zpx, 6 cycles: R322. -/
def execLsrZpx (a : Byte) (s : State) : Result :=
  rmwClass (.zpx a) 6 lsrByte s

/-- 0x4E LSR abs, 6 cycles: R322. -/
def execLsrAbs (a : Word) (s : State) : Result :=
  rmwClass (.abs a) 6 lsrByte s

/-- 0x5E LSR absx, 7 cycles: R322. -/
def execLsrAbsx (a : Word) (s : State) : Result :=
  rmwClass (.absx a) 7 lsrByte s

/-- 0x2A ROL acc, 2 cycles: R323. -/
def execRolAcc (s : State) : Result :=
  accClass 2 rolByte s

/-- 0x26 ROL zp, 5 cycles: R323. -/
def execRolZp (a : Byte) (s : State) : Result :=
  rmwClass (.zp a) 5 rolByte s

/-- 0x36 ROL zpx, 6 cycles: R323. -/
def execRolZpx (a : Byte) (s : State) : Result :=
  rmwClass (.zpx a) 6 rolByte s

/-- 0x2E ROL abs, 6 cycles: R323. -/
def execRolAbs (a : Word) (s : State) : Result :=
  rmwClass (.abs a) 6 rolByte s

/-- 0x3E ROL absx, 7 cycles: R323. -/
def execRolAbsx (a : Word) (s : State) : Result :=
  rmwClass (.absx a) 7 rolByte s

/-- 0x6A ROR acc, 2 cycles: R324. -/
def execRorAcc (s : State) : Result :=
  accClass 2 rorByte s

/-- 0x66 ROR zp, 5 cycles: R324. -/
def execRorZp (a : Byte) (s : State) : Result :=
  rmwClass (.zp a) 5 rorByte s

/-- 0x76 ROR zpx, 6 cycles: R324. -/
def execRorZpx (a : Byte) (s : State) : Result :=
  rmwClass (.zpx a) 6 rorByte s

/-- 0x6E ROR abs, 6 cycles: R324. -/
def execRorAbs (a : Word) (s : State) : Result :=
  rmwClass (.abs a) 6 rorByte s

/-- 0x7E ROR absx, 7 cycles: R324. -/
def execRorAbsx (a : Word) (s : State) : Result :=
  rmwClass (.absx a) 7 rorByte s

end Sys2Proof.Machine
end

