-- ==== Sys2Proof/Machine/Stack.lean ====
section
/-! DEFINITION. Stack push and pull (48_stack.md R380 to R383). -/

namespace Sys2Proof.Machine

/-- 0x48 PHA imp, 3 cycles: R380. -/
def execPha (s : State) : Result :=
  let w := push s s.a
  finish w.state (3 + w.stall)

/-- 0x08 PHP imp, 3 cycles: R381. The pushed byte has the Break bit set. -/
def execPhp (s : State) : Result :=
  let w := push s (pack true s.p)
  finish w.state (3 + w.stall)

/-- 0x68 PLA imp, 4 cycles: R382. -/
def execPla (s : State) : Result :=
  let r := pull s
  finish ((r.state.setA r.value).setNZ r.value) 4

/-- 0x28 PLP imp, 4 cycles: R383. The next boundary still samples the old I (R62). -/
def execPlp (s : State) : Result :=
  let r := pull s
  finishWith s.p.i (r.state.setP (unpack r.value s.p)) 4

end Sys2Proof.Machine
end

