-- ==== Sys2Proof/Machine/System.lean ====
section
/-! DEFINITION. Flag instructions, NOP, BRK, RTI and the fatal fault (49_flags_system.md R400 to R421, 60_exceptions.md R440). -/

namespace Sys2Proof.Machine

/-- 0x18 CLC imp, 2 cycles: R400. -/
def execClc (s : State) : Result :=
  finish (s.setP { s.p with c := false }) 2

/-- 0xD8 CLD imp, 2 cycles: R401. -/
def execCld (s : State) : Result :=
  finish (s.setP { s.p with d := false }) 2

/-- 0x58 CLI imp, 2 cycles: R402. The next boundary still samples the old I (R62). -/
def execCli (s : State) : Result :=
  finishWith s.p.i (s.setP { s.p with i := false }) 2

/-- 0xB8 CLV imp, 2 cycles: R403. -/
def execClv (s : State) : Result :=
  finish (s.setP { s.p with v := false }) 2

/-- 0x38 SEC imp, 2 cycles: R404. -/
def execSec (s : State) : Result :=
  finish (s.setP { s.p with c := true }) 2

/-- 0xF8 SED imp, 2 cycles: R405. -/
def execSed (s : State) : Result :=
  finish (s.setP { s.p with d := true }) 2

/-- 0x78 SEI imp, 2 cycles: R406. The next boundary still samples the old I (R62). -/
def execSei (s : State) : Result :=
  finishWith s.p.i (s.setP { s.p with i := true }) 2

/-- 0xEA NOP imp, 2 cycles: R407. -/
def execNop (s : State) : Result :=
  finish s 2

/-- 0x00 BRK imp, 7 cycles: R420. The padding byte is fetched and discarded, and the
exception is taken with the Break bit set. -/
def execBrk (s : State) : Result :=
  let w := takeException true irqVector (fetchByte s).state
  finish w.state (7 + w.stall)

/-- 0x40 RTI imp, 6 cycles: R421. The restored I governs the very next boundary (R62). -/
def execRti (s : State) : Result :=
  finish (returnFromException s) 6

/-- The 105 UNIMPLEMENTED rows (R163): R440. PC is one past the opcode here; the fault names the opcode's own address,
and PC goes back to it. No cycle is counted and nothing else changes (log 9). -/
def execUnimplemented (op : Byte) (s : State) : Result :=
  .next (raiseUnimplemented op (s.pc - 1#16) s)

end Sys2Proof.Machine
end

