-- ==== Sys2Proof/Machine/Transfer.lean ====
section
/-! DEFINITION. Register transfers (40_load_store_transfer.md R206 to R211). -/

namespace Sys2Proof.Machine

/-- 0xAA TAX imp, 2 cycles: R206. -/
def execTax (s : State) : Result :=
  finish ((s.setX s.a).setNZ s.a) 2

/-- 0xA8 TAY imp, 2 cycles: R207. -/
def execTay (s : State) : Result :=
  finish ((s.setY s.a).setNZ s.a) 2

/-- 0xBA TSX imp, 2 cycles: R208. -/
def execTsx (s : State) : Result :=
  finish ((s.setX s.sp).setNZ s.sp) 2

/-- 0x8A TXA imp, 2 cycles: R209. -/
def execTxa (s : State) : Result :=
  finish ((s.setA s.x).setNZ s.x) 2

/-- 0x9A TXS imp, 2 cycles: R210. No flag is written. -/
def execTxs (s : State) : Result :=
  finish (s.setSP s.x) 2

/-- 0x98 TYA imp, 2 cycles: R211. -/
def execTya (s : State) : Result :=
  finish ((s.setA s.y).setNZ s.y) 2

end Sys2Proof.Machine
end

