-- ==== Sys2Proof/Machine/Fetch.lean ====
section
/-! DEFINITION. Fetching and decoding one instruction at PC (30_encoding.md R140, R180: Fetch, Decode, and the operand
fetches of Resolve), and putting an instruction where the next step fetches it. -/

namespace Sys2Proof.Machine

/-- `n` successive calls of `FetchByte()`, the first byte first. -/
def fetchBytes : Nat → State → List Byte × State
  | 0, s => ([], s)
  | n + 1, s =>
    let f := fetchByte s
    let r := fetchBytes n f.state
    (f.value :: r.1, r.2)

/-- An instruction fetched at PC, and the state after its bytes were fetched. -/
structure FetchedInstr where
  instr : Instr
  state : State

/-- Fetch the opcode, look it up, and fetch the operand bytes its row asks for, one bus read a byte (R180, R109). -/
def fetchInstr (s : State) : FetchedInstr :=
  let op := fetchByte s
  match buildOf op.value with
  | .plain i => ⟨i, op.state⟩
  | .byte f =>
    let b := fetchByte op.state
    ⟨f b.value, b.state⟩
  | .word f =>
    let lo := fetchByte op.state
    let hi := fetchByte lo.state
    ⟨f (cat16 hi.value lo.value), hi.state⟩

/-- Put bytes into memory at successive addresses, mod 65536. -/
def placeBytes : Memory → Word → List Byte → Memory
  | m, _, [] => m
  | m, a, b :: rest => placeBytes (m.write a.toNat b) (a + 1#16) rest

/-- A state whose next step fetches and runs the instruction of a table word: the bytes stand at PC in memory that
the flat address decode reaches, a bus is attached, no fault is recorded, and no interrupt is serviced first
(log 13). On State.reset only the memory changes. -/
def placeInstruction (s : State) (nbits w : Nat) : State :=
  let bus := { s.bus with map := flatMap, mem := placeBytes s.bus.mem s.pc (tableBytes nbits w) }
  ((((s.setBus bus).setAttached true).setFault none).setNmi false).setIPoll true

end Sys2Proof.Machine
end

