-- ==== Sys2Proof/Machine/Step.lean ====
section
/-! DEFINITION. One step of the machine (30_encoding.md R180): nothing without a bus or once the fault is recorded, else
the interrupt the boundary check finds, else the instruction at PC. -/

namespace Sys2Proof.Machine

/-- `step()` (R180). -/
def step (s : State) : Host.Outcome State Fault Refusal :=
  if s.busAttached then
    match s.fault with
    | some f => .fault (.unimplementedOpcode f.op f.pc)
    | none =>
      match pendingInterrupt s with
      | some kind => interruptSequence kind s
      | none => exec (fetchInstr s).instr (fetchInstr s).state
  else .refused .noBusAttached

/-- `s` with the instruction of a table word where `step` fetches its next instruction. -/
def State.withFetchWord (s : State) (nbits w : Nat) : State := placeInstruction s nbits w

end Sys2Proof.Machine
end

