-- ==== Sys2Proof/Machine/HostInput.lean ====
section
/-! DEFINITION. What the host can do to the machine between steps (10_state.md R71 to R75), and the cycle count a step
returns (30_encoding.md R181). -/

namespace Sys2Proof.Machine

/-- `connect_bus(bus)` (R71). -/
def connectBus (b : Bus) (s : State) : State := (s.setBus b).setAttached true

/-- `request_nmi()` (R72). -/
def requestNmi (s : State) : State := s.setNmi true

/-- `request_irq()` (R72). -/
def requestIrq (s : State) : State := s.setIrq true

/-- `clear_irq()` (R72). -/
def clearIrq (s : State) : State := s.setIrq false

/-- `set_pc(a)`, the harness input (R75). -/
def setPc (a : Word) (s : State) : State := s.setPC a

/-- `reset()`: no transition without a bus, else the reset sequence (R500). -/
def hostReset (s : State) : Result := if s.busAttached then .next (resetSequence s) else .refused .noBusAttached

/-- Everything the host can do, one action at a time, between steps only (R72, D26). -/
inductive HostAction where
  | connectBus (b : Bus)
  | requestNmi
  | requestIrq
  | clearIrq
  | setPc (a : Word)
  | reset
  | step
  deriving DecidableEq, Repr

/-- What an action of the host does. -/
def perform (act : HostAction) (s : State) : Result :=
  match act with
  | .connectBus b => .next (connectBus b s)
  | .requestNmi => .next (requestNmi s)
  | .requestIrq => .next (requestIrq s)
  | .clearIrq => .next (clearIrq s)
  | .setPc a => .next (setPc a s)
  | .reset => hostReset s
  | .step => step s

/-- A sequence of host actions, stopping at the first fault or refusal. -/
def performAll : List HostAction → State → Result
  | [], s => .next s
  | act :: rest, s =>
    match perform act s with
    | .next t => performAll rest t
    | .fault f => .fault f
    | .refused r => .refused r

/-- The harness's launch state: reset, then PC at the parameter TEST_ENTRY (R502, R78). -/
def launchAt (testEntry : Word) : State := setPc testEntry State.reset

/-- The cycle count `step()` returns: what the step adds to CYC (R58, R181), and none for a step that records the fatal
fault or has no transition (R440, log 18). -/
def stepCycles (s : State) : Option Nat :=
  match step s with
  | .next t => if t.fault.isSome then none else some (t.cyc - s.cyc)
  | .fault _ | .refused _ => none

end Sys2Proof.Machine
end

