-- ==== Sys2Proof/Machine/Trace.lean ====
section
/-! DEFINITION. The trace record CORE exposes for each executed instruction (10_state.md R76), an output computed from the
state before the step (log 14), and its lines of text by the parameter TRACE_LAYOUT (00_scope.md R7), which no source
gives and every definition here takes as an argument (log 22). -/

namespace Sys2Proof.Machine

/-- The trace record (R76). `resolved` is the address the operand resolves to, none for `imp`, `acc` and `imm`. -/
structure TraceRecord where
  pc : Word
  bytes : List Byte
  mnemonic : String
  mode : Mode
  resolved : Option Word
  a : Byte
  x : Byte
  y : Byte
  status : Byte
  sp : Byte
  cyc : Nat
  deriving DecidableEq, Repr

/-- The effective address an addressing mode resolves to, given the operand bytes after the opcode. -/
def resolvedAddress (mode : Mode) (operands : List Byte) (s : State) : Option Word :=
  match mode, operands with
  | .zp, [b] => some (resolve (.zp b) s).ea
  | .zpx, [b] => some (resolve (.zpx b) s).ea
  | .zpy, [b] => some (resolve (.zpy b) s).ea
  | .indx, [b] => some (resolve (.indx b) s).ea
  | .indy, [b] => some (resolve (.indy b) s).ea
  | .rel, [b] => some (branchTarget b s).ea
  | .abs, [lo, hi] => some (resolve (.abs (cat16 hi lo)) s).ea
  | .absx, [lo, hi] => some (resolve (.absx (cat16 hi lo)) s).ea
  | .absy, [lo, hi] => some (resolve (.absy (cat16 hi lo)) s).ea
  | .ind, [lo, hi] => some (resolve (.ind (cat16 hi lo)) s).ea
  | _, _ => none

/-- The trace record of the step from `s`: none where the step takes an interrupt, records the fatal fault, or has no
transition. The bytes are the opcode and the `length - 1` bytes after it, JSR's last one among them (R141). -/
def traceRecord (s : State) : Option TraceRecord :=
  if s.busAttached && s.fault.isNone && (pendingInterrupt s).isNone then
    let f := fetchInstr s
    match f.instr.row with
    | none => none
    | some r =>
      let shown := f.instr.operands ++ (fetchBytes (r.mode.length - (encode f.instr).length) f.state).1
      some ⟨s.pc, f.instr.opcode :: shown, r.mnemonic, r.mode, resolvedAddress r.mode shown f.state,
        s.a, s.x, s.y, s.status, s.sp, s.cyc⟩
  else none

/-- The parameter TRACE_LAYOUT: the line of text of a trace record (00_scope.md R7, 92_eei_decisions.md D18). -/
abbrev TraceLayout := TraceRecord → String

/-- The trace line of the step from `s` in a given layout: one for each executed instruction, and none where the step has no
trace record (R76, D18). -/
def traceLine (layout : TraceLayout) (s : State) : Option String := (traceRecord s).map layout

/-- The trace lines of at most `fuel` steps from `s`, in their order, in a given layout. -/
def traceLog (layout : TraceLayout) : Nat → State → List String
  | 0, _ => []
  | fuel + 1, s =>
    (traceLine layout s).toList ++
      match step s with
      | .next t => traceLog layout fuel t
      | .fault _ | .refused _ => []

end Sys2Proof.Machine
end

