-- ==== Sys2Proof/Safety.lean ====
section
/-! DEFINITION. The terms claims about runs are stated in: the machine invariant, the states the host can bring about, a
run up to the host's end-of-run predicate (10_state.md R78), and what the rows of the opcode table say an instruction
may write. -/

namespace Sys2Proof

open Sys2Proof.Machine

/-- The invariant of the machine: memory keeps its canonical form, the stored Break flag is 0 (R49), and a recorded
fault names an opcode with no documented row (R440, R163). -/
def Machine.State.Inv (s : State) : Prop :=
  s.bus.mem.wf = true ∧ s.p.b = false ∧ ∀ f, s.fault = some f → isUnimplemented f.op = true

/-- The bus an action attaches, if it attaches one, holds memory in canonical form. -/
def HostActionOk : HostAction → Prop
  | .connectBus b => b.mem.wf = true
  | .requestNmi | .requestIrq | .clearIrq | .setPc _ | .reset | .step => True

/-- The states the host can bring about from power-on (R501, R71 to R75). -/
inductive Reachable : State → Prop where
  | powerOn : Reachable State.powerOn
  | action (s t : State) (act : HostAction) (hs : Reachable s) (ok : HostActionOk act)
      (h : perform act s = .next t) : Reachable t

/-- A run: steps until the host's predicate RUN_END holds, at most `fuel` of them (R78). It answers the state at which the
run ends, or none if a step had no transition. A state with a recorded fault is not a normal end (R440, D29).
DESIGN CHOICE (log 23), where R78 leaves it open: RUN_END is a predicate of the number of steps performed and the state,
since R78 names "a step count is reached" as an example and CORE holds no such count (R64); and a run that has not ended
after `fuel` steps answers none. `performed` is the number of steps before this state, 0 at the launch. -/
def runUntil (runEnd : Nat → State → Bool) (performed : Nat) : Nat → State → Option State
  | 0, s => if runEnd performed s && s.fault.isNone then some s else none
  | fuel + 1, s =>
    if runEnd performed s && s.fault.isNone then some s
    else match step s with
      | .next t => runUntil runEnd (performed + 1) fuel t
      | .fault _ | .refused _ => none

/-- No region of the bus is a device, so no write reports a stall (log 5) and, while no write has reached ROM, no read gives
a free value. -/
def Machine.Bus.NoDevice (b : Bus) : Prop := ∀ r ∈ b.map, r.kind ≠ .device

/-- The stack page answers as RAM, and no two of its 256 bytes are mirrors of one another. So it is on the flat bus of
R105 and on the console's (R106). -/
def Machine.Bus.StackInRam (b : Bus) : Prop :=
  (∀ v : Byte, ∃ k, b.place (stackAddr v) = some (.ram, k)) ∧
  ∀ v w : Byte, b.cell (stackAddr v) = b.cell (stackAddr w) → v = w

/-- A state in which the next step executes an instruction: a bus is attached, no fault is recorded, no NMI is latched,
and no asserted IRQ is unmasked (R180, R446, R447). -/
def Machine.State.Executes (s : State) : Prop :=
  s.busAttached = true ∧ s.fault = none ∧ s.nmiLatch = false ∧ (s.irqLine = false ∨ s.iPoll = true)

/-- The mode of an instruction's effective address, from its row and its operand bytes; none where it has none. -/
def Instr.memMode (i : Instr) : Option MemMode :=
  match i.row with
  | none => none
  | some r =>
    match r.mode, i.operands with
    | .zp, [b] => some (.zp b)
    | .zpx, [b] => some (.zpx b)
    | .zpy, [b] => some (.zpy b)
    | .indx, [b] => some (.indx b)
    | .indy, [b] => some (.indy b)
    | .abs, [lo, hi] => some (.abs (cat16 hi lo))
    | .absx, [lo, hi] => some (.absx (cat16 hi lo))
    | .absy, [lo, hi] => some (.absy (cat16 hi lo))
    | .ind, [lo, hi] => some (.ind (cat16 hi lo))
    | _, _ => none

/-- The class of an instruction's row. An unimplemented opcode has none. -/
def Instr.cls (i : Instr) : Option Class := i.row.map Row.cls

/-- The addresses an instruction stores a byte to, executed in `s`: the effective address of a class `write` or `rmw`
instruction (R156), the stack bytes of PHA, PHP, JSR and BRK (R380, R381, R361, R420), and none for any other. -/
def storeAddresses (i : Instr) (s : State) : List Word :=
  match i.cls with
  | some .write | some .rmw =>
    match i.memMode with
    | some m => [(resolve m s).ea]
    | none => []
  | some .stack =>
    match i with
    | .pha | .php => [stackAddr s.sp]
    | .jsr _ => [stackAddr s.sp, stackAddr (s.sp - 1#8)]
    | .brk => [stackAddr s.sp, stackAddr (s.sp - 1#8), stackAddr (s.sp - 2#8)]
    | _ => []
  | some .read | some .acc | some .jump | some .branch | some .implied | none => []

end Sys2Proof
end

