-- ==== Sys2Proof/Certificates/Slice0/Obligations.lean ====
section
/-! DEFINITION. The statements for the provers. The terms they are stated in come first (namespace Reference): the forms of
each instruction with the base cycles of 30_encoding.md R170, and the flag rules in natural-number arithmetic, as the
spec's pseudocode gives them. A statement about an instruction is about `exec`, so PC in its start state is the address
after the bytes the decoder consumed (log 7). -/

namespace Sys2Proof.Reference

open Sys2Proof Sys2Proof.Machine

/-- The end of an instruction step: the cycles are added to CYC, and the next boundary samples the I the instruction left
(10_state.md R62, 30_encoding.md R181). -/
def ends (s : State) (cycles : Nat) : Result := .next { s with cyc := s.cyc + cycles, iPoll := s.p.i }

/-- `SetNZ(r)` for a u8 `r` as a natural number (00_scope.md R10). -/
def nz (r : Nat) (p : Flags) : Flags := { p with n := decide (128 ≤ r), z := decide (r = 0) }

/-- A signed sum that does not fit in a byte. -/
def overflows (v : Int) : Bool := decide (v < -128 ∨ 127 < v)

/-- The base cycles of a read-class form and its page penalty (30_encoding.md R182). -/
def cost (base : Nat) (crossed : Bool) : Nat := base + if crossed then 1 else 0

/-- A form of an instruction, a row of R170: its bytes for given operands, the instruction they encode, where its operand
is, and its base cycles. -/
structure Form (α : Type) where
  bytes : List Byte
  instr : Instr
  place : α
  cycles : Nat

/-! The forms of each instruction, with the 8-bit operand `b` or the 16-bit operand `w` (R170). -/

/-- The forms of LDA (R200). -/
def ldaForms (b : Byte) (w : Word) : List (Form Operand) :=
  [⟨[0xA9, b], .ldaImm b, .imm b, 2⟩, ⟨[0xA5, b], .ldaZp b, .mem (.zp b), 3⟩,
   ⟨[0xB5, b], .ldaZpx b, .mem (.zpx b), 4⟩, ⟨[0xAD, lo8 w, hi8 w], .ldaAbs w, .mem (.abs w), 4⟩,
   ⟨[0xBD, lo8 w, hi8 w], .ldaAbsx w, .mem (.absx w), 4⟩, ⟨[0xB9, lo8 w, hi8 w], .ldaAbsy w, .mem (.absy w), 4⟩,
   ⟨[0xA1, b], .ldaIndx b, .mem (.indx b), 6⟩, ⟨[0xB1, b], .ldaIndy b, .mem (.indy b), 5⟩]

/-- The forms of LDX (R201). -/
def ldxForms (b : Byte) (w : Word) : List (Form Operand) :=
  [⟨[0xA2, b], .ldxImm b, .imm b, 2⟩, ⟨[0xA6, b], .ldxZp b, .mem (.zp b), 3⟩,
   ⟨[0xB6, b], .ldxZpy b, .mem (.zpy b), 4⟩, ⟨[0xAE, lo8 w, hi8 w], .ldxAbs w, .mem (.abs w), 4⟩,
   ⟨[0xBE, lo8 w, hi8 w], .ldxAbsy w, .mem (.absy w), 4⟩]

/-- The forms of LDY (R202). -/
def ldyForms (b : Byte) (w : Word) : List (Form Operand) :=
  [⟨[0xA0, b], .ldyImm b, .imm b, 2⟩, ⟨[0xA4, b], .ldyZp b, .mem (.zp b), 3⟩,
   ⟨[0xB4, b], .ldyZpx b, .mem (.zpx b), 4⟩, ⟨[0xAC, lo8 w, hi8 w], .ldyAbs w, .mem (.abs w), 4⟩,
   ⟨[0xBC, lo8 w, hi8 w], .ldyAbsx w, .mem (.absx w), 4⟩]

/-- The forms of STA (R203). -/
def staForms (b : Byte) (w : Word) : List (Form MemMode) :=
  [⟨[0x85, b], .staZp b, .zp b, 3⟩, ⟨[0x95, b], .staZpx b, .zpx b, 4⟩,
   ⟨[0x8D, lo8 w, hi8 w], .staAbs w, .abs w, 4⟩, ⟨[0x9D, lo8 w, hi8 w], .staAbsx w, .absx w, 5⟩,
   ⟨[0x99, lo8 w, hi8 w], .staAbsy w, .absy w, 5⟩, ⟨[0x81, b], .staIndx b, .indx b, 6⟩,
   ⟨[0x91, b], .staIndy b, .indy b, 6⟩]

/-- The forms of STX (R204). -/
def stxForms (b : Byte) (w : Word) : List (Form MemMode) :=
  [⟨[0x86, b], .stxZp b, .zp b, 3⟩, ⟨[0x96, b], .stxZpy b, .zpy b, 4⟩, ⟨[0x8E, lo8 w, hi8 w], .stxAbs w, .abs w, 4⟩]

/-- The forms of STY (R205). -/
def styForms (b : Byte) (w : Word) : List (Form MemMode) :=
  [⟨[0x84, b], .styZp b, .zp b, 3⟩, ⟨[0x94, b], .styZpx b, .zpx b, 4⟩, ⟨[0x8C, lo8 w, hi8 w], .styAbs w, .abs w, 4⟩]

/-- The forms of ADC (R240). -/
def adcForms (b : Byte) (w : Word) : List (Form Operand) :=
  [⟨[0x69, b], .adcImm b, .imm b, 2⟩, ⟨[0x65, b], .adcZp b, .mem (.zp b), 3⟩,
   ⟨[0x75, b], .adcZpx b, .mem (.zpx b), 4⟩, ⟨[0x6D, lo8 w, hi8 w], .adcAbs w, .mem (.abs w), 4⟩,
   ⟨[0x7D, lo8 w, hi8 w], .adcAbsx w, .mem (.absx w), 4⟩, ⟨[0x79, lo8 w, hi8 w], .adcAbsy w, .mem (.absy w), 4⟩,
   ⟨[0x61, b], .adcIndx b, .mem (.indx b), 6⟩, ⟨[0x71, b], .adcIndy b, .mem (.indy b), 5⟩]

/-- The forms of SBC (R241). -/
def sbcForms (b : Byte) (w : Word) : List (Form Operand) :=
  [⟨[0xE9, b], .sbcImm b, .imm b, 2⟩, ⟨[0xE5, b], .sbcZp b, .mem (.zp b), 3⟩,
   ⟨[0xF5, b], .sbcZpx b, .mem (.zpx b), 4⟩, ⟨[0xED, lo8 w, hi8 w], .sbcAbs w, .mem (.abs w), 4⟩,
   ⟨[0xFD, lo8 w, hi8 w], .sbcAbsx w, .mem (.absx w), 4⟩, ⟨[0xF9, lo8 w, hi8 w], .sbcAbsy w, .mem (.absy w), 4⟩,
   ⟨[0xE1, b], .sbcIndx b, .mem (.indx b), 6⟩, ⟨[0xF1, b], .sbcIndy b, .mem (.indy b), 5⟩]

/-- The forms of AND (R260). -/
def andForms (b : Byte) (w : Word) : List (Form Operand) :=
  [⟨[0x29, b], .andImm b, .imm b, 2⟩, ⟨[0x25, b], .andZp b, .mem (.zp b), 3⟩,
   ⟨[0x35, b], .andZpx b, .mem (.zpx b), 4⟩, ⟨[0x2D, lo8 w, hi8 w], .andAbs w, .mem (.abs w), 4⟩,
   ⟨[0x3D, lo8 w, hi8 w], .andAbsx w, .mem (.absx w), 4⟩, ⟨[0x39, lo8 w, hi8 w], .andAbsy w, .mem (.absy w), 4⟩,
   ⟨[0x21, b], .andIndx b, .mem (.indx b), 6⟩, ⟨[0x31, b], .andIndy b, .mem (.indy b), 5⟩]

/-- The forms of ORA (R261). -/
def oraForms (b : Byte) (w : Word) : List (Form Operand) :=
  [⟨[0x09, b], .oraImm b, .imm b, 2⟩, ⟨[0x05, b], .oraZp b, .mem (.zp b), 3⟩,
   ⟨[0x15, b], .oraZpx b, .mem (.zpx b), 4⟩, ⟨[0x0D, lo8 w, hi8 w], .oraAbs w, .mem (.abs w), 4⟩,
   ⟨[0x1D, lo8 w, hi8 w], .oraAbsx w, .mem (.absx w), 4⟩, ⟨[0x19, lo8 w, hi8 w], .oraAbsy w, .mem (.absy w), 4⟩,
   ⟨[0x01, b], .oraIndx b, .mem (.indx b), 6⟩, ⟨[0x11, b], .oraIndy b, .mem (.indy b), 5⟩]

/-- The forms of EOR (R262). -/
def eorForms (b : Byte) (w : Word) : List (Form Operand) :=
  [⟨[0x49, b], .eorImm b, .imm b, 2⟩, ⟨[0x45, b], .eorZp b, .mem (.zp b), 3⟩,
   ⟨[0x55, b], .eorZpx b, .mem (.zpx b), 4⟩, ⟨[0x4D, lo8 w, hi8 w], .eorAbs w, .mem (.abs w), 4⟩,
   ⟨[0x5D, lo8 w, hi8 w], .eorAbsx w, .mem (.absx w), 4⟩, ⟨[0x59, lo8 w, hi8 w], .eorAbsy w, .mem (.absy w), 4⟩,
   ⟨[0x41, b], .eorIndx b, .mem (.indx b), 6⟩, ⟨[0x51, b], .eorIndy b, .mem (.indy b), 5⟩]

/-- The forms of BIT (R263). -/
def bitForms (b : Byte) (w : Word) : List (Form Operand) :=
  [⟨[0x24, b], .bitZp b, .mem (.zp b), 3⟩, ⟨[0x2C, lo8 w, hi8 w], .bitAbs w, .mem (.abs w), 4⟩]

/-- The forms of CMP (R281). -/
def cmpForms (b : Byte) (w : Word) : List (Form Operand) :=
  [⟨[0xC9, b], .cmpImm b, .imm b, 2⟩, ⟨[0xC5, b], .cmpZp b, .mem (.zp b), 3⟩,
   ⟨[0xD5, b], .cmpZpx b, .mem (.zpx b), 4⟩, ⟨[0xCD, lo8 w, hi8 w], .cmpAbs w, .mem (.abs w), 4⟩,
   ⟨[0xDD, lo8 w, hi8 w], .cmpAbsx w, .mem (.absx w), 4⟩, ⟨[0xD9, lo8 w, hi8 w], .cmpAbsy w, .mem (.absy w), 4⟩,
   ⟨[0xC1, b], .cmpIndx b, .mem (.indx b), 6⟩, ⟨[0xD1, b], .cmpIndy b, .mem (.indy b), 5⟩]

/-- The forms of CPX (R282). -/
def cpxForms (b : Byte) (w : Word) : List (Form Operand) :=
  [⟨[0xE0, b], .cpxImm b, .imm b, 2⟩, ⟨[0xE4, b], .cpxZp b, .mem (.zp b), 3⟩,
   ⟨[0xEC, lo8 w, hi8 w], .cpxAbs w, .mem (.abs w), 4⟩]

/-- The forms of CPY (R283). -/
def cpyForms (b : Byte) (w : Word) : List (Form Operand) :=
  [⟨[0xC0, b], .cpyImm b, .imm b, 2⟩, ⟨[0xC4, b], .cpyZp b, .mem (.zp b), 3⟩,
   ⟨[0xCC, lo8 w, hi8 w], .cpyAbs w, .mem (.abs w), 4⟩]

/-- The forms of INC (R300). -/
def incForms (b : Byte) (w : Word) : List (Form MemMode) :=
  [⟨[0xE6, b], .incZp b, .zp b, 5⟩, ⟨[0xF6, b], .incZpx b, .zpx b, 6⟩,
   ⟨[0xEE, lo8 w, hi8 w], .incAbs w, .abs w, 6⟩, ⟨[0xFE, lo8 w, hi8 w], .incAbsx w, .absx w, 7⟩]

/-- The forms of DEC (R301). -/
def decForms (b : Byte) (w : Word) : List (Form MemMode) :=
  [⟨[0xC6, b], .decZp b, .zp b, 5⟩, ⟨[0xD6, b], .decZpx b, .zpx b, 6⟩,
   ⟨[0xCE, lo8 w, hi8 w], .decAbs w, .abs w, 6⟩, ⟨[0xDE, lo8 w, hi8 w], .decAbsx w, .absx w, 7⟩]

/-- The memory forms of ASL (R321). -/
def aslForms (b : Byte) (w : Word) : List (Form MemMode) :=
  [⟨[0x06, b], .aslZp b, .zp b, 5⟩, ⟨[0x16, b], .aslZpx b, .zpx b, 6⟩,
   ⟨[0x0E, lo8 w, hi8 w], .aslAbs w, .abs w, 6⟩, ⟨[0x1E, lo8 w, hi8 w], .aslAbsx w, .absx w, 7⟩]

/-- The memory forms of LSR (R322). -/
def lsrForms (b : Byte) (w : Word) : List (Form MemMode) :=
  [⟨[0x46, b], .lsrZp b, .zp b, 5⟩, ⟨[0x56, b], .lsrZpx b, .zpx b, 6⟩,
   ⟨[0x4E, lo8 w, hi8 w], .lsrAbs w, .abs w, 6⟩, ⟨[0x5E, lo8 w, hi8 w], .lsrAbsx w, .absx w, 7⟩]

/-- The memory forms of ROL (R323). -/
def rolForms (b : Byte) (w : Word) : List (Form MemMode) :=
  [⟨[0x26, b], .rolZp b, .zp b, 5⟩, ⟨[0x36, b], .rolZpx b, .zpx b, 6⟩,
   ⟨[0x2E, lo8 w, hi8 w], .rolAbs w, .abs w, 6⟩, ⟨[0x3E, lo8 w, hi8 w], .rolAbsx w, .absx w, 7⟩]

/-- The memory forms of ROR (R324). -/
def rorForms (b : Byte) (w : Word) : List (Form MemMode) :=
  [⟨[0x66, b], .rorZp b, .zp b, 5⟩, ⟨[0x76, b], .rorZpx b, .zpx b, 6⟩,
   ⟨[0x6E, lo8 w, hi8 w], .rorAbs w, .abs w, 6⟩, ⟨[0x7E, lo8 w, hi8 w], .rorAbsx w, .absx w, 7⟩]

/-- The accumulator and memory shift of each mnemonic on a u8 `m` with carry-in `c`: the result and the bit shifted out
(45_shift_rotate.md R321 to R324). -/
def aslRef (m _c : Nat) : Nat × Bool := (m * 2 % 256, decide (128 ≤ m))
def lsrRef (m _c : Nat) : Nat × Bool := (m / 2, decide (m % 2 = 1))
def rolRef (m c : Nat) : Nat × Bool := ((m * 2 + c) % 256, decide (128 ≤ m))
def rorRef (m c : Nat) : Nat × Bool := (m / 2 + c * 128, decide (m % 2 = 1))

/-- What `Shift` does to the accumulator (R320). -/
def ShiftsA (f : Nat → Nat → Nat × Bool) (opcode : Byte) (i : Instr) (s : State) : Prop :=
  let r := f s.a.toNat s.p.c.toNat
  encode i = [opcode] ∧ exec i s = ends { s with a := BitVec.ofNat 8 r.1, p := { nz r.1 s.p with c := r.2 } } 2

/-- What a class `rmw` instruction does to the byte at its effective address: one read, one write of the result, and the
flags (30_encoding.md R156, R320). -/
def RewritesMemory (f : Nat → Flags → Nat × Flags) (form : Form MemMode) (s : State) : Prop :=
  let ea := resolve form.place s
  let m := memRead ea.state ea.ea
  let r := f m.value.toNat s.p
  let w := memWrite m.state ea.ea (BitVec.ofNat 8 r.1)
  encode form.instr = form.bytes ∧ exec form.instr s = ends { w.state with p := r.2 } (form.cycles + w.stall)

/-- A shift as a rewrite of a byte of memory. -/
def shiftRewrite (f : Nat → Nat → Nat × Bool) (m : Nat) (p : Flags) : Nat × Flags :=
  ((f m p.c.toNat).1, { nz (f m p.c.toNat).1 p with c := (f m p.c.toNat).2 })

/-- What a class `read` instruction does with the operand it reads: the effect on the state after the access, the base
cycles and the page penalty (R156, R182). -/
def Reads (effect : Byte → State → State) (form : Form Operand) (s : State) : Prop :=
  let r := readOperand form.place s
  encode form.instr = form.bytes ∧ exec form.instr s = ends (effect r.value r.state) (cost form.cycles r.crossed)

/-- `Compare(r, M)` (43_compare.md R280). -/
def compared (r m : Nat) (p : Flags) : Flags :=
  { p with n := decide (128 ≤ (r + 256 - m) % 256), z := decide (r = m), c := decide (m ≤ r) }

/-- The eight branches with their conditions (R341 to R348): the `place` of a form is its condition. -/
def branchForms (off : Byte) (p : Flags) : List (Form Bool) :=
  [⟨[0x90, off], .bcc off, !p.c, 2⟩, ⟨[0xB0, off], .bcs off, p.c, 2⟩, ⟨[0xF0, off], .beq off, p.z, 2⟩,
   ⟨[0x30, off], .bmi off, p.n, 2⟩, ⟨[0xD0, off], .bne off, !p.z, 2⟩, ⟨[0x10, off], .bpl off, !p.n, 2⟩,
   ⟨[0x50, off], .bvc off, !p.v, 2⟩, ⟨[0x70, off], .bvs off, p.v, 2⟩]

/-- `Pack(b)` in natural-number arithmetic (00_scope.md R10, 10_state.md R55): bit 5 is always set, bit 4 is `b`. -/
def packed (b : Nat) (p : Flags) : Byte :=
  BitVec.ofNat 8 (p.n.toNat * 128 + p.v.toNat * 64 + 32 + b * 16 + p.d.toNat * 8 + p.i.toNat * 4 + p.z.toNat * 2
    + p.c.toNat)

/-- The state in which three pushes of PC and status, a set I and a vector read leave the machine, and the stalls the pushes
reported (60_exceptions.md R451): PC high byte, PC low byte, `Pack(b)`, then the two vector bytes, low byte first. -/
def exceptionEntry (b : Nat) (vector : Word) (s : State) : State × Nat :=
  let h := push s (hi8 s.pc)
  let l := push h.state (lo8 s.pc)
  let q := push l.state (packed b s.p)
  let lo := memRead q.state vector
  let hi := memRead lo.state (vector + 1#16)
  ({ hi.state with p := { s.p with i := true }, pc := cat16 hi.value lo.value }, h.stall + l.stall + q.stall)

/-- Change the next state a result answers, if it answers one. -/
def mapNext (f : State → State) : Result → Result
  | .next t => .next (f t)
  | .fault r => .fault r
  | .refused r => .refused r

/-- The same state with the Decimal flag inverted. -/
def flipD (s : State) : State := { s with p := { s.p with d := !s.p.d } }

/-- Whether the effective address of an instruction executed in `s` crossed a page (R151). -/
def crossedPage (i : Instr) (s : State) : Bool :=
  match i.memMode with
  | some m => (resolve m s).crossed
  | none => false

end Sys2Proof.Reference

open Sys2Proof Sys2Proof.Machine Sys2Proof.Reference

/-! ## Encoding and decoding -/

/-- R170: bytes written out from rows of the opcode table, one or more for each family, decode to the instruction of the
row: an 8-bit operand as it stands, a 16-bit operand low byte first (R140). 0x02 has no documented row (R163). -/
def Obligations.SpecWordsDecode : Prop :=
  decode [0xA9, 0x80] = .ok (.ldaImm 0x80, []) ∧ decode [0xBD, 0xFF, 0x12] = .ok (.ldaAbsx 0x12FF, []) ∧
  decode [0x91, 0x10] = .ok (.staIndy 0x10, []) ∧ decode [0x9A] = .ok (.txs, []) ∧
  decode [0x69, 0x50] = .ok (.adcImm 0x50, []) ∧ decode [0x2C, 0x00, 0x02] = .ok (.bitAbs 0x0200, []) ∧
  decode [0xC1, 0x10] = .ok (.cmpIndx 0x10, []) ∧ decode [0xFE, 0xFF, 0x12] = .ok (.incAbsx 0x12FF, []) ∧
  decode [0x6A] = .ok (.rorAcc, []) ∧ decode [0xD0, 0xFB] = .ok (.bne 0xFB, []) ∧
  decode [0x6C, 0xFF, 0x02] = .ok (.jmpInd 0x02FF, []) ∧ decode [0x28] = .ok (.plp, []) ∧
  decode [0x78] = .ok (.sei, []) ∧ decode [0x02] = .ok (.unimplemented 0x02, [])

/-- Decoding the encoding of a well-formed instruction gives it back, at every value of its operands, whatever bytes
follow: no bit of an encoding is dropped (R140, R160, R170). The encoding is the bytes the decoder consumes, without JSR's
high byte and BRK's padding byte, which their meanings fetch (log 8). -/
def Obligations.DecodeOfEncode : Prop :=
  ∀ (i : Instr) (rest : List Byte), i.wellFormed = true → decode (encode i ++ rest) = .ok (i, rest)

/-- The other direction: any three bytes decode to a well-formed instruction, whose encoding and the bytes left over are
the bytes decoded (R140, R160, R164; JSR's high byte and BRK's padding byte are left over, log 8). -/
def Obligations.EncodeOfDecode : Prop :=
  ∀ (op b1 b2 : Byte) (rest : List Byte), ∃ i left, decode (op :: b1 :: b2 :: rest) = .ok (i, left) ∧
    i.wellFormed = true ∧ encode i ++ left = op :: b1 :: b2 :: rest

/-- R160, R163: the opcode values that decode to no documented instruction are exactly the 105 that R163 lists, and the
other 151 are the rows of the table. -/
def Obligations.UnimplementedOpcodesExactly : Prop :=
  (∀ (op : Byte) (rest : List Byte),
    decode (op :: rest) = .ok (.unimplemented op, rest) ↔ op.toNat ∈ unimplementedOpcodes) ∧
  unimplementedOpcodes.length = 105 ∧ unimplementedOpcodes.Nodup ∧
  opcodeTable.length = 151 ∧ (opcodeTable.map Row.opcode).Nodup

/-- A step in which no interrupt is serviced fetches the bytes at PC one at a time, and executes the instruction they
decode to, in the state after its bytes were fetched: PC has moved past them mod 65536, the bus has answered the reads,
and no register of CORE but PC has changed (R180, R45). That the fetches leave the bus's address decode and policy as
they were is the model's choice (log 1), and so is that a fetch from a device changes no memory (log 21): R100 lets a
read have a side effect in the bus. That exec starts in the state after these fetches, which leave JSR's high byte and
BRK's padding byte to their meanings, is the model's division of a step (log 7, 8). -/
def Obligations.StepRunsDecoded : Prop :=
  ∀ (s : State) (i : Instr) (rest : List Byte), s.Executes → decode (fetchBytes 3 s).1 = .ok (i, rest) →
    ∃ b : Bus, (fetchBytes (encode i).length s).2 = { s with pc := s.pc + BitVec.ofNat 16 (encode i).length, bus := b } ∧
      b.mem = s.bus.mem ∧ b.map = s.bus.map ∧ b.openBus = s.bus.openBus ∧
      step s = exec i (fetchBytes (encode i).length s).2

/-! ## The bus, memory and the stack -/

/-- R105, the flat bus: a write sets the byte at its address and no other, reports no stall, and a read has no effect on
memory. -/
def Obligations.FlatBusIsAnArray : Prop :=
  ∀ (b : Bus) (cyc : Nat) (a c : Word) (v : Byte), b.map = flatMap → b.mem.wf = true →
    (b.write cyc a v).2 = 0 ∧
    ((b.write cyc a v).1.read c).1 = (if c = a then v else (b.read c).1) ∧
    (b.read c).2.mem = b.mem

/-- R106: on the console's bus the internal RAM is mirrored every 0x0800 up to 0x2000: a byte written at one address reads
back at every address below 0x2000 that agrees with it mod 0x0800, and at no other of them. -/
def Obligations.ConsoleRamIsMirrored : Prop :=
  ∀ (b : Bus) (cyc : Nat) (a c : Word) (v : Byte), b.map = consoleMap → b.mem.wf = true →
    a.toNat < 0x2000 → c.toNat < 0x2000 →
    ((b.write cyc a v).1.read c).1 = (if c.toNat % 0x0800 = a.toNat % 0x0800 then v else (b.read c).1)

/-- R106: every address of the console's bus lies in exactly one region: internal RAM, the picture-unit registers
(mirrored every 8), the remaining registers, or cartridge space (a device in this map: the model's choice, log 17). -/
def Obligations.ConsoleRegionOfEveryAddress : Prop :=
  ∀ (b : Bus) (a : Word), b.map = consoleMap →
    b.place a =
      if a.toNat < 0x2000 then some (.ram, a.toNat % 0x0800)
      else if a.toNat < 0x4000 then some (.device, 0x2000 + a.toNat % 8)
      else some (.device, a.toNat)

/-- An address no device drives reads as zero or as the last driven value, by the bus's policy, and reading it changes no
memory (R103, R100). That the last driven value is the field `lastDriven` is the model's choice (log 6); so is what a
write to it does: it changes no memory and reports no stall (log 19 and log 5, after R441 and R101). -/
def Obligations.OpenBus : Prop :=
  ∀ (b : Bus) (cyc : Nat) (a : Word) (v : Byte), b.place a = none →
    (b.read a).1 = (match b.openBus with | .zero => 0x00 | .lastDriven => b.lastDriven) ∧
    (b.read a).2.mem = b.mem ∧ (b.write cyc a v).1.mem = b.mem ∧ (b.write cyc a v).2 = 0

/-- A bus write reports no stall, or the 513 or 514 cycles of a direct-memory transfer (R104). That a write to an address that
is no device register reports none is the model's choice (log 5): R104 leaves the triggering address to the bus. -/
def Obligations.StallIsATransfer : Prop :=
  ∀ (b : Bus) (cyc : Nat) (a : Word) (v : Byte),
    (b.write cyc a v).2 ∈ [0, 513, 514] ∧ ((∀ k, b.place a ≠ some (.device, k)) → (b.write cyc a v).2 = 0)

/-- R110, R111, R44: a push writes at 0x0100 + SP and then decrements SP mod 256; a pull increments SP mod 256 and then reads
at 0x0100 + SP; the stack never leaves page 0x01. -/
def Obligations.PushAndPull : Prop :=
  ∀ (s : State) (v : Byte),
    push s v = ⟨{ (memWrite s (BitVec.ofNat 16 (0x0100 + s.sp.toNat)) v).state with
        sp := BitVec.ofNat 8 (s.sp.toNat + 255) }, (memWrite s (BitVec.ofNat 16 (0x0100 + s.sp.toNat)) v).stall⟩ ∧
    (let r := memRead s (BitVec.ofNat 16 (0x0100 + (s.sp.toNat + 1) % 256))
     pull s = ⟨r.value, { r.state with sp := BitVec.ofNat 8 (s.sp.toNat + 1) }⟩)

/-! ## The address resolver -/

/-- R145 to R151: the zero-page modes wrap in page 0x00; `abs` is its operand; `absx` and `absy` add the index mod 65536, and
cross a page exactly when the high byte of the effective address differs from that of the base. None of them accesses
the bus. -/
def Obligations.DirectModes : Prop :=
  ∀ (a : Byte) (w : Word) (s : State),
    resolve (.zp a) s = ⟨BitVec.ofNat 16 a.toNat, false, s⟩ ∧
    resolve (.zpx a) s = ⟨BitVec.ofNat 16 ((a.toNat + s.x.toNat) % 256), false, s⟩ ∧
    resolve (.zpy a) s = ⟨BitVec.ofNat 16 ((a.toNat + s.y.toNat) % 256), false, s⟩ ∧
    resolve (.abs w) s = ⟨w, false, s⟩ ∧
    resolve (.absx w) s = ⟨BitVec.ofNat 16 (w.toNat + s.x.toNat),
      decide (w.toNat / 256 ≠ (w.toNat + s.x.toNat) % 65536 / 256), s⟩ ∧
    resolve (.absy w) s = ⟨BitVec.ofNat 16 (w.toNat + s.y.toNat),
      decide (w.toNat / 256 ≠ (w.toNat + s.y.toNat) % 65536 / 256), s⟩

/-- R152, R153, R154: the pointer modes read the low byte of the pointer first, and its high byte from the same page:
page 0x00 for `indx` and `indy`, the pointer's own page for `ind`. `indy` adds Y mod 65536 and reports the crossing. -/
def Obligations.PointerModes : Prop :=
  ∀ (z : Byte) (p : Word) (s : State),
    (let lo := memRead s p
     let hi := memRead lo.state (BitVec.ofNat 16 (p.toNat / 256 * 256 + (p.toNat + 1) % 256))
     resolve (.ind p) s = ⟨BitVec.ofNat 16 (hi.value.toNat * 256 + lo.value.toNat), false, hi.state⟩) ∧
    (let lo := memRead s (BitVec.ofNat 16 ((z.toNat + s.x.toNat) % 256))
     let hi := memRead lo.state (BitVec.ofNat 16 ((z.toNat + s.x.toNat + 1) % 256))
     resolve (.indx z) s = ⟨BitVec.ofNat 16 (hi.value.toNat * 256 + lo.value.toNat), false, hi.state⟩) ∧
    (let lo := memRead s (BitVec.ofNat 16 z.toNat)
     let hi := memRead lo.state (BitVec.ofNat 16 ((z.toNat + 1) % 256))
     let base := hi.value.toNat * 256 + lo.value.toNat
     resolve (.indy z) s = ⟨BitVec.ofNat 16 (base + s.y.toNat),
       decide (base / 256 ≠ (base + s.y.toNat) % 65536 / 256), hi.state⟩)

/-- R156, R144, R102: the operand of a read-class instruction is the fetched byte for `imm`, with no access, and otherwise the
byte of one read at the effective address: the state after it is the state after the resolver and that one read, and
no register and no memory has changed. That a read of a device changes no memory is the model's choice (log 21). -/
def Obligations.OperandRead : Prop :=
  ∀ (v : Byte) (m : MemMode) (s : State),
    readOperand (.imm v) s = ⟨v, false, s⟩ ∧
    (let r := memRead (resolve m s).state (resolve m s).ea
     (readOperand (.mem m) s).value = r.value ∧ (readOperand (.mem m) s).state = r.state) ∧
    (readOperand (.mem m) s).crossed = (resolve m s).crossed ∧
    ∃ b : Bus, (readOperand (.mem m) s).state = { s with bus := b } ∧ b.mem = s.bus.mem

/-! ## Loads, stores and transfers -/

/-- R200, R201, R202: every form of LDA, LDX and LDY writes its register with the operand, N and Z from it, and nothing
else but what the access does on the bus. -/
def Obligations.LoadResults : Prop :=
  ∀ (b : Byte) (w : Word) (s : State),
    (∀ f ∈ ldaForms b w, Reads (fun m t => { t with a := m, p := nz m.toNat s.p }) f s) ∧
    (∀ f ∈ ldxForms b w, Reads (fun m t => { t with x := m, p := nz m.toNat s.p }) f s) ∧
    (∀ f ∈ ldyForms b w, Reads (fun m t => { t with y := m, p := nz m.toNat s.p }) f s)

/-- R203, R204, R205: every form of STA, STX and STY writes its register at the effective address in its fixed cycles and the
stall the write reports; no register and no flag changes. -/
def Obligations.StoreResults : Prop :=
  ∀ (b : Byte) (w : Word) (s : State),
    (∀ f ∈ staForms b w, let r := resolve f.place s
      encode f.instr = f.bytes ∧
      exec f.instr s = ends (memWrite r.state r.ea s.a).state (f.cycles + (memWrite r.state r.ea s.a).stall)) ∧
    (∀ f ∈ stxForms b w, let r := resolve f.place s
      encode f.instr = f.bytes ∧
      exec f.instr s = ends (memWrite r.state r.ea s.x).state (f.cycles + (memWrite r.state r.ea s.x).stall)) ∧
    (∀ f ∈ styForms b w, let r := resolve f.place s
      encode f.instr = f.bytes ∧
      exec f.instr s = ends (memWrite r.state r.ea s.y).state (f.cycles + (memWrite r.state r.ea s.y).stall))

/-- After STA, STX or STY to a RAM address, in every form, that address holds the register stored, and every address that is
no mirror of it holds what it held (R101 "RAM: yes", R203, R204, R205). That a pointer read from a device changes no memory
is the model's choice (log 21). -/
def Obligations.StoredByteIsHeld : Prop :=
  ∀ (b : Byte) (w : Word) (s : State) (k : Nat), s.Inv →
    ∀ store ∈ [(staForms b w, s.a), (stxForms b w, s.x), (styForms b w, s.y)], ∀ f ∈ store.1,
    s.bus.place (resolve f.place s).ea = some (.ram, k) →
    ∃ t, exec f.instr s = .next t ∧ t.bus.peek (resolve f.place s).ea = some store.2 ∧
      ∀ a, s.bus.Apart a (resolve f.place s).ea → t.bus.peek a = s.bus.peek a

/-- R206 to R211: the register transfers. N and Z follow the value, except that TXS writes no flag. -/
def Obligations.TransferResults : Prop :=
  ∀ s : State,
    [Instr.tax, .tay, .tsx, .txa, .txs, .tya].map encode = [[0xAA], [0xA8], [0xBA], [0x8A], [0x9A], [0x98]] ∧
    exec .tax s = ends { s with x := s.a, p := nz s.a.toNat s.p } 2 ∧
    exec .tay s = ends { s with y := s.a, p := nz s.a.toNat s.p } 2 ∧
    exec .tsx s = ends { s with x := s.sp, p := nz s.sp.toNat s.p } 2 ∧
    exec .txa s = ends { s with a := s.x, p := nz s.x.toNat s.p } 2 ∧
    exec .txs s = ends { s with sp := s.x } 2 ∧
    exec .tya s = ends { s with a := s.y, p := nz s.y.toNat s.p } 2

/-! ## Arithmetic, logic, compare -/

/-- R239, R240: every form of ADC. The sum is A + M + C; the result is its low byte, C the carry out, V signed overflow of the
two's-complement sum, whatever D holds. -/
def Obligations.AdcResult : Prop :=
  ∀ (b : Byte) (w : Word) (s : State), ∀ f ∈ adcForms b w,
    Reads (fun m t =>
      let sum := s.a.toNat + m.toNat + s.p.c.toNat
      { t with
        a := BitVec.ofNat 8 sum
        p := { nz (sum % 256) s.p with
          c := decide (255 < sum), v := overflows (s.a.toInt + m.toInt + s.p.c.toNat) } }) f s

/-- R241: every form of SBC. The result is (A - M - (1 - C)) mod 256, C = 1 exactly when the difference is not negative, and V
its signed overflow, whatever D holds. -/
def Obligations.SbcResult : Prop :=
  ∀ (b : Byte) (w : Word) (s : State), ∀ f ∈ sbcForms b w,
    Reads (fun m t =>
      let diff : Int := s.a.toNat - m.toNat - (1 - s.p.c.toNat)
      { t with
        a := BitVec.ofInt 8 diff
        p := { nz (diff % 256).toNat s.p with
          c := decide (0 ≤ diff), v := overflows (s.a.toInt - m.toInt - (1 - s.p.c.toNat)) } }) f s

/-- R260, R261, R262: every form of AND, ORA and EOR. -/
def Obligations.LogicalResults : Prop :=
  ∀ (b : Byte) (w : Word) (s : State),
    (∀ f ∈ andForms b w, Reads (fun m t => { t with a := s.a &&& m, p := nz (s.a &&& m).toNat s.p }) f s) ∧
    (∀ f ∈ oraForms b w, Reads (fun m t => { t with a := s.a ||| m, p := nz (s.a ||| m).toNat s.p }) f s) ∧
    (∀ f ∈ eorForms b w, Reads (fun m t => { t with a := s.a ^^^ m, p := nz (s.a ^^^ m).toNat s.p }) f s)

/-- R263: both forms of BIT. N is bit 7 of the operand, V its bit 6, Z whether A and M have no bit in common; A is not
written. -/
def Obligations.BitResult : Prop :=
  ∀ (b : Byte) (w : Word) (s : State), ∀ f ∈ bitForms b w,
    Reads (fun m t => { t with p := { s.p with
      n := decide (128 ≤ m.toNat), v := decide (64 ≤ m.toNat % 128), z := decide (s.a &&& m = 0) } }) f s

/-- R280 to R283: every form of CMP, CPX and CPY. -/
def Obligations.CompareResults : Prop :=
  ∀ (b : Byte) (w : Word) (s : State),
    (∀ f ∈ cmpForms b w, Reads (fun m t => { t with p := compared s.a.toNat m.toNat s.p }) f s) ∧
    (∀ f ∈ cpxForms b w, Reads (fun m t => { t with p := compared s.x.toNat m.toNat s.p }) f s) ∧
    (∀ f ∈ cpyForms b w, Reads (fun m t => { t with p := compared s.y.toNat m.toNat s.p }) f s)

/-! ## Increment, decrement, shifts -/

/-- R300, R301: every form of INC and DEC reads the byte at the effective address once and writes it back once, one more or
one less mod 256, in fixed cycles; N and Z follow it. -/
def Obligations.IncDecMemory : Prop :=
  ∀ (b : Byte) (w : Word) (s : State),
    (∀ f ∈ incForms b w, RewritesMemory (fun m p => ((m + 1) % 256, nz ((m + 1) % 256) p)) f s) ∧
    (∀ f ∈ decForms b w, RewritesMemory (fun m p => ((m + 255) % 256, nz ((m + 255) % 256) p)) f s)

/-- R302 to R305: INX, INY, DEX and DEY. -/
def Obligations.IncDecRegisters : Prop :=
  ∀ s : State,
    [Instr.inx, .iny, .dex, .dey].map encode = [[0xE8], [0xC8], [0xCA], [0x88]] ∧
    exec .inx s = ends { s with x := BitVec.ofNat 8 (s.x.toNat + 1), p := nz ((s.x.toNat + 1) % 256) s.p } 2 ∧
    exec .iny s = ends { s with y := BitVec.ofNat 8 (s.y.toNat + 1), p := nz ((s.y.toNat + 1) % 256) s.p } 2 ∧
    exec .dex s = ends { s with x := BitVec.ofNat 8 (s.x.toNat + 255), p := nz ((s.x.toNat + 255) % 256) s.p } 2 ∧
    exec .dey s = ends { s with y := BitVec.ofNat 8 (s.y.toNat + 255), p := nz ((s.y.toNat + 255) % 256) s.p } 2

/-- R320 to R324: the accumulator forms of ASL, LSR, ROL and ROR, with operand and result in A and no bus access, and the
memory forms, with one read and one write of the effective address in fixed cycles. -/
def Obligations.ShiftResults : Prop :=
  ∀ (b : Byte) (w : Word) (s : State),
    ShiftsA aslRef 0x0A .aslAcc s ∧ ShiftsA lsrRef 0x4A .lsrAcc s ∧
    ShiftsA rolRef 0x2A .rolAcc s ∧ ShiftsA rorRef 0x6A .rorAcc s ∧
    (∀ f ∈ aslForms b w, RewritesMemory (shiftRewrite aslRef) f s) ∧
    (∀ f ∈ lsrForms b w, RewritesMemory (shiftRewrite lsrRef) f s) ∧
    (∀ f ∈ rolForms b w, RewritesMemory (shiftRewrite rolRef) f s) ∧
    (∀ f ∈ rorForms b w, RewritesMemory (shiftRewrite rorRef) f s)

/-! ## Branches, jumps, subroutines -/

/-- R340 to R348, R155, R183: each branch goes to PC + the signed offset mod 65536 when its condition holds, in 3 cycles, or 4
if the target lies in another page than the next instruction; otherwise it falls through in 2. -/
def Obligations.BranchResults : Prop :=
  ∀ (off : Byte) (s : State), ∀ f ∈ branchForms off s.p,
    let target : Word := BitVec.ofInt 16 (s.pc.toNat + off.toInt)
    encode f.instr = f.bytes ∧
    exec f.instr s =
      if f.place then ends { s with pc := target } (if s.pc.toNat / 256 = target.toNat / 256 then 3 else 4)
      else ends s f.cycles

/-- R360, R152: JMP goes to its operand, or to the contents of the pointer it gives; the pointer's high byte is read from the
pointer's own page. -/
def Obligations.JumpResults : Prop :=
  ∀ (w : Word) (s : State),
    encode (.jmpAbs w) = [0x4C, lo8 w, hi8 w] ∧ encode (.jmpInd w) = [0x6C, lo8 w, hi8 w] ∧
    exec (.jmpAbs w) s = ends { s with pc := w } 3 ∧
    (let lo := memRead s w
     let hi := memRead lo.state (BitVec.ofNat 16 (w.toNat / 256 * 256 + (w.toNat + 1) % 256))
     exec (.jmpInd w) s = ends { hi.state with pc := BitVec.ofNat 16 (hi.value.toNat * 256 + lo.value.toNat) } 5)

/-- R361: JSR, with PC at its last byte: it pushes PC, high byte first, and only then fetches that byte, the high byte of
the target. -/
def Obligations.JsrResult : Prop :=
  ∀ (lo : Byte) (s : State),
    encode (.jsr lo) = [0x20, lo] ∧
    let h := push s (hi8 s.pc)
    let l := push h.state (lo8 s.pc)
    let hi := memRead l.state s.pc
    exec (.jsr lo) s = ends { hi.state with pc := BitVec.ofNat 16 (hi.value.toNat * 256 + lo.toNat) }
      (6 + h.stall + l.stall)

/-- R115, R361: a JSR whose last byte lies at the address a push writes reads the pushed byte as its target's high byte. -/
def Obligations.JsrReadsPushedByte : Prop :=
  ∀ (lo : Byte) (s : State), s.Inv → s.bus.StackInRam →
    (s.pc = stackAddr s.sp → ∃ t, exec (.jsr lo) s = .next t ∧ t.pc = cat16 (hi8 s.pc) lo) ∧
    (s.pc = stackAddr (s.sp - 1#8) → ∃ t, exec (.jsr lo) s = .next t ∧ t.pc = cat16 (lo8 s.pc) lo)

/-- R362: RTS pulls the low byte, then the high byte, and goes to the address one past them mod 65536. -/
def Obligations.RtsResult : Prop :=
  ∀ s : State,
    encode .rts = [0x60] ∧
    let lo := pull s
    let hi := pull lo.state
    exec .rts s = ends { hi.state with pc := BitVec.ofNat 16 (hi.value.toNat * 256 + lo.value.toNat + 1) } 6

/-- JSR and then RTS: with the stack in RAM, execution goes on after the JSR, and SP, A, X, Y and the flags are as they were
(R361, R362). That JSR's last fetch, if from a device, changes no stack byte is the model's choice (log 21). -/
def Obligations.SubroutineReturns : Prop :=
  ∀ (lo : Byte) (s : State), s.Inv → s.bus.StackInRam →
    ∃ t u, exec (.jsr lo) s = .next t ∧ exec .rts t = .next u ∧
      u.pc = s.pc + 1#16 ∧ u.sp = s.sp ∧ u.a = s.a ∧ u.x = s.x ∧ u.y = s.y ∧ u.p = s.p

/-! ## Stack, flags and system -/

/-- R380, R381: PHA pushes A, and PHP the packed status with bits 5 and 4 set; no register but SP and no flag changes. -/
def Obligations.PushResults : Prop :=
  ∀ s : State,
    [Instr.pha, .php].map encode = [[0x48], [0x08]] ∧
    exec .pha s = ends (push s s.a).state (3 + (push s s.a).stall) ∧
    (let p := s.p
     let byte : Byte := BitVec.ofNat 8 (p.n.toNat * 128 + p.v.toNat * 64 + 32 + 16 + p.d.toNat * 8 + p.i.toNat * 4
       + p.z.toNat * 2 + p.c.toNat)
     exec .php s = ends (push s byte).state (3 + (push s byte).stall))

/-- R382, R383, R56: PLA pulls A with N and Z; PLP pulls N, V, D, I, Z and C from bits 7, 6, 3, 2, 1 and 0, and the boundary
after PLP samples the I from before it (R62). -/
def Obligations.PullResults : Prop :=
  ∀ s : State,
    [Instr.pla, .plp].map encode = [[0x68], [0x28]] ∧
    let r := pull s
    exec .pla s = ends { r.state with a := r.value, p := nz r.value.toNat s.p } 4 ∧
    exec .plp s = .next { r.state with
      p := ⟨r.value.getLsbD 7, r.value.getLsbD 6, s.p.b, r.value.getLsbD 3, r.value.getLsbD 2, r.value.getLsbD 1,
        r.value.getLsbD 0⟩
      cyc := s.cyc + 4
      iPoll := s.p.i }

/-- R400 to R407: the flag instructions write their one flag, and NOP nothing. The boundary after CLI and SEI samples the I
from before them (R62). -/
def Obligations.FlagInstructionResults : Prop :=
  ∀ s : State,
    [Instr.clc, .cld, .clv, .sec, .sed, .nop, .cli, .sei].map encode =
      [[0x18], [0xD8], [0xB8], [0x38], [0xF8], [0xEA], [0x58], [0x78]] ∧
    exec .clc s = ends { s with p := { s.p with c := false } } 2 ∧
    exec .cld s = ends { s with p := { s.p with d := false } } 2 ∧
    exec .clv s = ends { s with p := { s.p with v := false } } 2 ∧
    exec .sec s = ends { s with p := { s.p with c := true } } 2 ∧
    exec .sed s = ends { s with p := { s.p with d := true } } 2 ∧
    exec .nop s = ends s 2 ∧
    exec .cli s = .next { s with p := { s.p with i := false }, cyc := s.cyc + 2, iPoll := s.p.i } ∧
    exec .sei s = .next { s with p := { s.p with i := true }, cyc := s.cyc + 2, iPoll := s.p.i }

/-- R420: BRK fetches and discards a padding byte, pushes the address after it and the status with the Break bit set, sets
I, and goes to the IRQ/BRK vector, in 7 cycles. -/
def Obligations.BrkResult : Prop :=
  ∀ s : State,
    encode .brk = [0x00] ∧
    let e := exceptionEntry 1 0xFFFE#16 { (memRead s s.pc).state with pc := s.pc + 1#16 }
    exec .brk s = ends e.1 (7 + e.2)

/-- R421, R56: RTI pulls the status and then PC, low byte first, with no +1; the I it restores governs the very next
boundary (R62). -/
def Obligations.RtiResult : Prop :=
  ∀ s : State,
    encode .rti = [0x40] ∧
    let p := pull s
    let lo := pull p.state
    let hi := pull lo.state
    exec .rti s = ends { hi.state with
      p := ⟨p.value.getLsbD 7, p.value.getLsbD 6, s.p.b, p.value.getLsbD 3, p.value.getLsbD 2, p.value.getLsbD 1,
        p.value.getLsbD 0⟩
      pc := BitVec.ofNat 16 (hi.value.toNat * 256 + lo.value.toNat) } 6

/-- R440, R163: a step that fetches an opcode R163 lists records the fault with the opcode byte and its address, leaves PC at
the opcode, adds nothing to CYC, and changes no other register. That this step answers a next
state, in which the fault is recorded, is the model's form of it (log 9); exec starts with PC one past the opcode (log 7). -/
def Obligations.UnimplementedRecordsFault : Prop :=
  (∀ (op : Byte) (s : State), exec (.unimplemented op) s =
    .next { s with fault := some ⟨op, s.pc - 1#16⟩, pc := s.pc - 1#16 }) ∧
  ∀ s : State, s.Executes → (memRead s s.pc).value.toNat ∈ unimplementedOpcodes →
    step s = .next { (memRead s s.pc).state with fault := some ⟨(memRead s s.pc).value, s.pc⟩ }

/-! ## Frames -/

/-- R41 to R44: an instruction changes A, X, Y or SP only if its mnemonic is in the rule's list of writers of that
register, or, for A, if it is an accumulator shift. -/
def Obligations.RegisterFrame : Prop :=
  ∀ (i : Instr) (s t : State), exec i s = .next t →
    (i.mnemonic ∉ ["LDA", "PLA", "TXA", "TYA", "ADC", "SBC", "AND", "ORA", "EOR"] →
      i ∉ [Instr.aslAcc, .lsrAcc, .rolAcc, .rorAcc] → t.a = s.a) ∧
    (i.mnemonic ∉ ["LDX", "TAX", "TSX", "INX", "DEX"] → t.x = s.x) ∧
    (i.mnemonic ∉ ["LDY", "TAY", "INY", "DEY"] → t.y = s.y) ∧
    (i.mnemonic ∉ ["TXS", "PHA", "PHP", "PLA", "PLP", "JSR", "RTS", "RTI", "BRK"] → t.sp = s.sp)

/-- R57: an instruction changes a flag only if the flag-write matrix gives its mnemonic an entry for that flag; no
instruction writes B. -/
def Obligations.FlagFrame : Prop :=
  ∀ (i : Instr) (s t : State), exec i s = .next t →
    let nzWriters := ["ADC", "SBC", "AND", "ORA", "EOR", "BIT", "CMP", "CPX", "CPY", "INC", "DEC", "INX", "INY", "DEX",
      "DEY", "ASL", "ROL", "LSR", "ROR", "LDA", "LDX", "LDY", "TAX", "TAY", "TSX", "TXA", "TYA", "PLA", "PLP", "RTI"]
    (i.mnemonic ∉ nzWriters → t.p.n = s.p.n ∧ t.p.z = s.p.z) ∧
    (i.mnemonic ∉ ["ADC", "SBC", "BIT", "PLP", "RTI", "CLV"] → t.p.v = s.p.v) ∧
    t.p.b = s.p.b ∧
    (i.mnemonic ∉ ["PLP", "RTI", "CLD", "SED"] → t.p.d = s.p.d) ∧
    (i.mnemonic ∉ ["PLP", "RTI", "CLI", "SEI", "BRK"] → t.p.i = s.p.i) ∧
    (i.mnemonic ∉ ["ADC", "SBC", "CMP", "CPX", "CPY", "ASL", "ROL", "LSR", "ROR", "PLP", "RTI", "CLC", "SEC"] →
      t.p.c = s.p.c)

/-- No instruction changes the NMI latch, the IRQ line or the attachment of the bus, and only an unimplemented opcode changes
the recorded fault (R59, R60, R63, R71). PC changes only by the instructions that transfer control, by JSR's and BRK's
own fetches among them, and by an unimplemented opcode, which puts it back (R45, R440; exec starts past the
bytes decoded, log 7). That no instruction changes the bus's address decode or its policy is the
model's choice: the bus it holds switches no banks (log 1, R112). -/
def Obligations.ControlFrame : Prop :=
  ∀ (i : Instr) (s t : State), exec i s = .next t →
    t.nmiLatch = s.nmiLatch ∧ t.irqLine = s.irqLine ∧ t.busAttached = s.busAttached ∧
    t.bus.map = s.bus.map ∧ t.bus.openBus = s.bus.openBus ∧
    ((∀ op, i ≠ .unimplemented op) → t.fault = s.fault) ∧
    (i.cls ≠ some .branch → i.cls ≠ some .jump → i.mnemonic ∉ ["JSR", "RTS", "RTI", "BRK"] →
      (∀ op, i ≠ .unimplemented op) → t.pc = s.pc)

/-- Every byte that RAM or ROM holds is unchanged by an instruction, but at the addresses it stores to (and their mirrors):
the effective address of a store, INC, DEC or memory shift, and the stack bytes of PHA, PHP, JSR and BRK. What a store to
ROM does to ROM is the bus's (R101, log 19), so of ROM it speaks where no store goes to ROM. An
instruction of any other class changes no byte (R102, R156). That an access to a device register changes no byte of
RAM or ROM is the model's choice: R100 and R101 let the bus have side effects (log 21), a switch of banks
among them (log 1, R112). -/
def Obligations.MemoryFrame : Prop :=
  ∀ (i : Instr) (s t : State), exec i s = .next t →
    ∀ a : Word, (∀ e ∈ storeAddresses i s, s.bus.Apart a e) → t.bus.peek a = s.bus.peek a

/-! ## Interrupts, the fault and reset -/

/-- R443, R446, R451: a latched NMI is serviced at the boundary whatever I, i_poll and the IRQ line hold: PC and the status
with the Break bit clear and bit 5 set are pushed, I is set, PC comes from 0xFFFA, the latch clears, in 7 cycles; no
instruction is executed. -/
def Obligations.NmiIsServiced : Prop :=
  ∀ s : State, s.busAttached = true → s.fault = none → s.nmiLatch = true →
    let e := exceptionEntry 0 0xFFFA#16 s
    step s = .next { e.1 with nmiLatch := false, cyc := s.cyc + (7 + e.2), iPoll := true }

/-- R447, R451, R444: with no NMI latched, an asserted IRQ whose polled interrupt-disable value is 0 is serviced at the
boundary through 0xFFFE; the line stays asserted. -/
def Obligations.IrqIsServiced : Prop :=
  ∀ s : State, s.busAttached = true → s.fault = none → s.nmiLatch = false → s.irqLine = true → s.iPoll = false →
    let e := exceptionEntry 0 0xFFFE#16 s
    step s = .next { e.1 with cyc := s.cyc + (7 + e.2), iPoll := true } ∧ e.1.irqLine = true

/-- R62: at the end of a step that records no fault, the next boundary's interrupt-disable value is the I the step left;
after CLI, SEI and PLP it is the I from before the step. -/
def Obligations.PollRule : Prop :=
  ∀ s t : State, step s = .next t → t.fault = none →
    (s.Executes → (fetchInstr s).instr ∈ [Instr.cli, .sei, .plp] → t.iPoll = s.p.i) ∧
    (¬ (s.Executes ∧ (fetchInstr s).instr ∈ [Instr.cli, .sei, .plp]) → t.iPoll = t.p.i)

/-- R510, R402, R383: after CLI, or a PLP that pulls I = 0, with IRQ asserted and I set before it, the next boundary services
nothing, so one more instruction executes; at the boundary after that one the IRQ is taken, if that instruction leaves
I clear, or is itself CLI, SEI or PLP. -/
def Obligations.CliWindow : Prop :=
  ∀ s : State, s.Executes → s.irqLine = true → s.p.i = true →
    ((fetchInstr s).instr = .cli ∨
      ((fetchInstr s).instr = .plp ∧ (pull (fetchInstr s).state).value.getLsbD 2 = false)) →
    ∃ t, step s = .next t ∧ t.p.i = false ∧ t.irqLine = true ∧ pendingInterrupt t = none ∧ t.Executes ∧
      ∀ u, step t = .next u → u.fault = none →
        ((fetchInstr t).instr ∈ [Instr.cli, .sei, .plp] ∨ u.p.i = false) → pendingInterrupt u = some .irq

/-- R510, R406, R383: after SEI, or a PLP that pulls I = 1, with I clear before it, an IRQ that is asserted by the next boundary
is still taken there, though I is set. -/
def Obligations.SeiWindow : Prop :=
  ∀ s : State, s.Executes → s.p.i = false →
    ((fetchInstr s).instr = .sei ∨
      ((fetchInstr s).instr = .plp ∧ (pull (fetchInstr s).state).value.getLsbD 2 = true)) →
    ∃ t, step s = .next t ∧ t.p.i = true ∧ pendingInterrupt (requestIrq t) = some .irq

/-- R453, R455: an interrupt sequence and then RTI, with the stack in RAM: PC, every flag, SP, A, X and Y are as they were
before the interrupt. That a vector read, if from a device, changes no stack byte is the model's choice (log 21). -/
def Obligations.InterruptReturns : Prop :=
  ∀ (kind : InterruptKind) (s : State), s.Inv → s.bus.StackInRam →
    ∃ t u, interruptSequence kind s = .next t ∧ exec .rti t = .next u ∧
      u.pc = s.pc ∧ u.p = s.p ∧ u.sp = s.sp ∧ u.a = s.a ∧ u.x = s.x ∧ u.y = s.y

/-- R63, R440: once a fault is recorded, a step has no transition and answers the fault, no action of the host clears it,
reset included, and no run from there reaches its end, whatever RUN_END is (R78; that it sees
the number of steps beside the state is the model's choice, log 23). R71: a step or a reset with no bus attached has no transition
and is refused. The outcomes the model answers where there is no transition are named in log 9 and log 10. -/
def Obligations.WhereNothingHappens : Prop :=
  (∀ (s : State) (f : CoreFault), s.fault = some f →
    (s.busAttached = true → step s = .fault (.unimplementedOpcode f.op f.pc)) ∧
    (∀ (act : HostAction) (t : State), perform act s = .next t → t.fault = some f) ∧
    ∀ (runEnd : Nat → State → Bool) (performed fuel : Nat), runUntil runEnd performed fuel s = none) ∧
  ∀ s : State, s.busAttached = false →
    step s = .refused .noBusAttached ∧ hostReset s = .refused .noBusAttached

/-- R500: reset has no transition without a bus; with one attached it is the reset sequence, which writes nothing, and leaves the
IRQ line and the fault as they were. That the two vector reads change no memory, also where a device answers them (as on
the console's bus), is the model's choice: R100 lets a read have side effects in the bus (log 21). -/
def Obligations.ResetSequenceResult : Prop :=
  ∀ s : State,
    (s.busAttached = false → hostReset s = .refused .noBusAttached) ∧
    (s.busAttached = true →
      let lo := memRead s 0xFFFC#16
      let hi := memRead lo.state 0xFFFD#16
      hostReset s = .next { hi.state with
        a := 0x00, x := 0x00, y := 0x00, sp := 0xFD
        p := ⟨false, false, false, false, true, false, false⟩
        pc := BitVec.ofNat 16 (hi.value.toNat * 256 + lo.value.toNat)
        nmiLatch := false, iPoll := true, cyc := s.cyc + 7 } ∧
      hi.state.bus.mem = s.bus.mem)

/-- R77, R501: the state right after reset is power-on, a bus attached, and the reset sequence: the values of R77. That the bus
is the flat one with nothing listed in memory is the model's choice (log 2, log 3). The harness's launch state has PC at
TEST_ENTRY and everything else as after reset (R502, R78). -/
def Obligations.ResetFromPowerOn : Prop :=
  hostReset (connectBus Bus.flat State.powerOn) = .next State.reset ∧
  State.reset.a = 0x00 ∧ State.reset.x = 0x00 ∧ State.reset.y = 0x00 ∧ State.reset.sp = 0xFD ∧
  State.reset.status = 0x24 ∧ State.reset.cyc = 7 ∧ State.reset.nmiLatch = false ∧ State.reset.irqLine = false ∧
  State.reset.iPoll = true ∧ State.reset.fault = none ∧
  ∀ testEntry : Word, launchAt testEntry = { State.reset with pc := testEntry }

/-! ## The whole machine -/

/-- From every state that meets the invariant, a step gives a state that meets it: memory keeps its canonical form, the
stored Break flag stays 0 (R49), and a recorded fault names an opcode R163 lists (R440). That memory is a list with a
canonical form is the model's own representation (log 1). -/
def Obligations.StepKeepsInvariant : Prop :=
  ∀ s t : State, s.Inv → step s = .next t → t.Inv

/-- The state right after reset, and the power-on state, meet the invariant (R77, R49; the canonical form of memory is the
model's own, log 1). -/
def Obligations.InvariantAtReset : Prop := State.reset.Inv ∧ State.powerOn.Inv

/-- From every state that meets the invariant, every action of the host that answers a state gives one that meets it: a step,
a reset, an interrupt request, `set_pc`, and any bus whose memory is in canonical form. So every state the host can
bring about from power-on meets it, and B = 0 at every instruction boundary (R49). The canonical form of memory is the
model's own (log 1). -/
def Obligations.ReachableStatesMeetInvariant : Prop :=
  (∀ (act : HostAction) (s t : State), HostActionOk act → s.Inv → perform act s = .next t → t.Inv) ∧
  ∀ s : State, Reachable s → s.Inv

/-- R58, R181, R73: CYC never decreases. The count a step returns is what it adds to CYC, and is at least 2; a step that records
the fatal fault returns no count and adds none (R440), and a step with no transition returns none. That the returned count
is computed from the two states of the step is the model's reading (log 18). -/
def Obligations.CyclesOnlyGrow : Prop :=
  (∀ s t : State, step s = .next t →
    (t.fault = none → s.cyc + 2 ≤ t.cyc ∧ ∃ n, stepCycles s = some n ∧ t.cyc = s.cyc + n) ∧
    (t.fault ≠ none → t.cyc = s.cyc ∧ stepCycles s = none)) ∧
  ∀ s : State, s.busAttached = false ∨ s.fault ≠ none → stepCycles s = none

/-- R181, R182: on a bus with no device an instruction that is no branch adds the base cycles of its row, and one more exactly
when its row carries the page penalty and the effective address crossed a page. The rows that carry it are those of class
`read` and mode `absx`, `absy` or `indy`. That a bus with no device reports no stall is the model's choice: R101 and R104
leave to the bus which write stalls (log 5). The branches are those of BranchResults. -/
def Obligations.CyclesOfEveryRow : Prop :=
  (∀ (i : Instr) (r : Row) (s t : State), i.wellFormed = true → i.row = some r → r.cls ≠ .branch → s.bus.NoDevice →
    exec i s = .next t →
    t.cyc = s.cyc + r.cycles + (if r.pagePenalty && crossedPage i s then 1 else 0)) ∧
  ∀ r ∈ opcodeTable, r.pagePenalty = true ↔ (r.cls = .read ∧ r.mode ∈ [Mode.absx, .absy, .indy])

/-- R60: no step changes the IRQ line. R59: a step clears a latched NMI by servicing it, and never latches one. R71, R72, R75:
the host's inputs change the one thing they name, and `connect_bus` the bus and nothing else. That an input is a function on
the state between steps is the model's reading of R72 (log 11); the attachment is a field of its own (log 10). -/
def Obligations.InterruptInputsAreTheHosts : Prop :=
  (∀ s t : State, step s = .next t → t.irqLine = s.irqLine ∧ t.nmiLatch = false) ∧
  ∀ (s : State) (a : Word) (b : Bus),
    perform .requestNmi s = .next { s with nmiLatch := true } ∧
    perform .requestIrq s = .next { s with irqLine := true } ∧
    perform .clearIrq s = .next { s with irqLine := false } ∧
    perform (.setPc a) s = .next { s with pc := a } ∧
    perform (.connectBus b) s = .next { s with bus := b, busAttached := true }

/-- R50, R239: the Decimal flag is inert. Inverting it before any instruction that neither writes nor pushes it changes
nothing but the flag itself afterwards. -/
def Obligations.DecimalIsInert : Prop :=
  ∀ (i : Instr) (s : State), i.mnemonic ∉ ["CLD", "SED", "PLP", "RTI", "PHP", "BRK"] →
    exec i (flipD s) = mapNext flipD (exec i s)

/-- R520: no rule of the instructions depends on CYC. So on a bus with no device an instruction started with CYC larger by k
ends in the same state with CYC larger by k. That such a bus does not use CYC either is the model's choice: R104 and R520
let the bus use it, and in the model only the stall of a device write does (log 5). -/
def Obligations.CycIsNotRead : Prop :=
  ∀ (i : Instr) (s : State) (k : Nat), s.bus.NoDevice →
    exec i (s.addCycles k) = mapNext (fun t => t.addCycles k) (exec i s)

/-- R76: an executed instruction has a trace record: the PC of the opcode, the bytes from there on, as many as the mode is
long, the mnemonic with the address its operand resolves to, the registers and CYC before the step. An interrupt
sequence, an unimplemented opcode and a step with no transition have none. The address is that of the resolver, in
every mode (none for `imp`, `acc` and `imm`). Under any layout (TRACE_LAYOUT, R7) the trace line is that of the record.
That the record is computed from the state before the step is the model's reading (log 14). -/
def Obligations.TraceRecordContents : Prop :=
  (∀ (s : State) (r : Row), s.Executes → (fetchInstr s).instr.row = some r →
    ∃ t, traceRecord s = some t ∧ t.pc = s.pc ∧ t.bytes = (fetchBytes r.mode.length s).1 ∧ t.mnemonic = r.mnemonic ∧
      t.mode = r.mode ∧ t.resolved = resolvedAddress r.mode (t.bytes.drop 1) (fetchInstr s).state ∧
      t.a = s.a ∧ t.x = s.x ∧ t.y = s.y ∧ t.sp = s.sp ∧ t.status = packed s.p.b.toNat s.p ∧ t.cyc = s.cyc) ∧
  (∀ s : State, ¬ s.Executes → traceRecord s = none) ∧
  (∀ s : State, (memRead s s.pc).value.toNat ∈ unimplementedOpcodes → traceRecord s = none) ∧
  (∀ (b lo hi : Byte) (bytes : List Byte) (u : State),
    (∀ mode ∈ [Mode.imp, .acc, .imm], resolvedAddress mode bytes u = none) ∧
    (∀ m ∈ [(Mode.zp, MemMode.zp b), (.zpx, .zpx b), (.zpy, .zpy b), (.indx, .indx b), (.indy, .indy b)],
      resolvedAddress m.1 [b] u = some (resolve m.2 u).ea) ∧
    (∀ m ∈ [(Mode.abs, MemMode.abs (cat16 hi lo)), (.absx, .absx (cat16 hi lo)), (.absy, .absy (cat16 hi lo)),
        (.ind, .ind (cat16 hi lo))],
      resolvedAddress m.1 [lo, hi] u = some (resolve m.2 u).ea) ∧
    resolvedAddress .rel [b] u = some (BitVec.ofInt 16 (u.pc.toNat + b.toInt))) ∧
  ∀ (layout : TraceLayout) (s : State), traceLine layout s = (traceRecord s).map layout
end

