-- ==== Sys2Proof/Laws/Memory.lean ====
section
/-! SUPPORT. Memory contents: the canonical form is kept by every operation, and a read gives the byte last written. -/

namespace Sys2Proof.Machine

theorem Memory.wfFrom_mono {lo lo' : Nat} (h : lo ≤ lo') :
    ∀ {m : Memory}, Memory.wfFrom lo' m = true → Memory.wfFrom lo m = true
  | [], _ => rfl
  | (k, v) :: rest, hm => by
    simp only [Memory.wfFrom, Bool.and_eq_true, decide_eq_true_eq] at hm ⊢
    exact ⟨⟨⟨h.trans hm.1.1.1, hm.1.1.2⟩, hm.1.2⟩, hm.2⟩

/-- An address below every listed one reads as unlisted. -/
theorem Memory.read_of_lt :
    ∀ {m : Memory} {lo a : Nat}, Memory.wfFrom lo m = true → a < lo → m.read a = unlistedByte
  | [], _, _, _, _ => rfl
  | (k, v) :: rest, lo, a, hm, ha => by
    simp only [Memory.wfFrom, Bool.and_eq_true, decide_eq_true_eq] at hm
    have hk : k ≠ a := by omega
    simp only [Memory.read, if_neg hk]
    exact Memory.read_of_lt hm.2 (by omega)

/-- Writing keeps the canonical form. -/
theorem Memory.write_wfFrom (a : Nat) (v : Byte) (ha : a < 0x10000) :
    ∀ {m : Memory} {lo : Nat}, Memory.wfFrom lo m = true → lo ≤ a → Memory.wfFrom lo (m.write a v) = true
  | [], lo, _, hlo => by
    by_cases hv : v = unlistedByte
    · simp [Memory.write, Memory.wfFrom, hv]
    · simp [Memory.write, Memory.wfFrom, hv, hlo, ha]
  | (k, w) :: rest, lo, hm, hlo => by
    have hm' := hm
    simp only [Memory.wfFrom, Bool.and_eq_true, decide_eq_true_eq] at hm'
    obtain ⟨⟨⟨h1, h2⟩, h3⟩, h4⟩ := hm'
    unfold Memory.write
    by_cases hak : a < k
    · by_cases hv : v = unlistedByte
      · simpa [hak, hv] using hm
      · simp only [if_pos hak, if_neg hv, Memory.wfFrom, Bool.and_eq_true, decide_eq_true_eq]
        exact ⟨⟨⟨hlo, ha⟩, by simpa using hv⟩, ⟨⟨hak, h2⟩, h3⟩, h4⟩
    · by_cases hk : a = k
      · subst hk
        by_cases hv : v = unlistedByte
        · simpa [hv] using Memory.wfFrom_mono (by omega) h4
        · simp only [if_neg hak, if_neg hv, ↓reduceIte, Memory.wfFrom, Bool.and_eq_true, decide_eq_true_eq]
          exact ⟨⟨⟨h1, h2⟩, by simpa using hv⟩, h4⟩
      · simp only [if_neg hak, if_neg hk, Memory.wfFrom, Bool.and_eq_true, decide_eq_true_eq]
        exact ⟨⟨⟨h1, h2⟩, h3⟩, Memory.write_wfFrom a v ha h4 (by omega)⟩

/-- `Memory.write` keeps `Memory.wf` at every address of the 16-bit space. -/
theorem Memory.write_wf {m : Memory} (hm : m.wf = true) {a : Nat} (ha : a < 0x10000) (v : Byte) :
    (m.write a v).wf = true :=
  Memory.write_wfFrom a v ha hm (Nat.zero_le a)

/-- A write leaves every other address alone. -/
theorem Memory.read_write_ne {a b : Nat} (v : Byte) (h : a ≠ b) :
    ∀ m : Memory, (m.write a v).read b = m.read b
  | [] => by by_cases hv : v = unlistedByte <;> simp [Memory.write, Memory.read, hv, h]
  | (k, w) :: rest => by
    unfold Memory.write
    by_cases hak : a < k
    · by_cases hv : v = unlistedByte <;> simp [hak, hv, Memory.read, h]
    · by_cases hk : a = k
      · by_cases hv : v = unlistedByte <;> simp [hv, Memory.read, hk, hk ▸ h]
      · simp [hak, hk, Memory.read, Memory.read_write_ne v h rest]

/-- A read of the address written gives the byte written. -/
theorem Memory.read_write_self_from (a : Nat) (v : Byte) :
    ∀ {m : Memory} {lo : Nat}, Memory.wfFrom lo m = true → (m.write a v).read a = v
  | [], _, _ => by
    by_cases hv : v = unlistedByte <;> simp [Memory.write, Memory.read, hv]
  | (k, w) :: rest, lo, hm => by
    have hm' := hm
    simp only [Memory.wfFrom, Bool.and_eq_true, decide_eq_true_eq] at hm'
    unfold Memory.write
    by_cases hak : a < k
    · by_cases hv : v = unlistedByte
      · have h1 : Memory.wfFrom k ((k, w) :: rest) = true := by simpa [Memory.wfFrom] using hm'.imp (·.imp (·.2) id) id
        rw [if_pos hak, if_pos hv, Memory.read_of_lt h1 hak, hv]
      · simp [hak, hv, Memory.read]
    · by_cases hk : a = k
      · subst hk
        by_cases hv : v = unlistedByte
        · simp [hv, Memory.read_of_lt hm'.2 (Nat.lt_succ_self a)]
        · simp [hv, Memory.read]
      · have hk' : ¬ k = a := fun h => hk h.symm
        simp [hak, hk, hk', Memory.read, Memory.read_write_self_from a v hm'.2]

theorem Memory.read_write_self {m : Memory} (hm : m.wf = true) (a : Nat) (v : Byte) : (m.write a v).read a = v :=
  Memory.read_write_self_from a v hm

/-- The bus decodes an address of the 16-bit space to a place in the 16-bit space. -/
theorem locate_le : ∀ {map : List Region} {a : Nat} {kind : RegionKind} {k : Nat},
    locate map a = some (kind, k) → k ≤ a
  | [], _, _, _, h => by simp [locate] at h
  | r :: rest, a, kind, k, h => by
    unfold locate at h
    split at h
    · rename_i hr
      simp only [Option.some.injEq, Prod.mk.injEq] at h
      have := Nat.mod_le (a - r.base) r.period
      omega
    · exact locate_le h

theorem Bus.place_lt {b : Bus} {addr : Word} {kind : RegionKind} {k : Nat} (h : b.place addr = some (kind, k)) :
    k < 0x10000 :=
  Nat.lt_of_le_of_lt (locate_le h) addr.isLt

/-- A bus read changes no memory, no address decode and no policy. -/
@[simp] theorem Bus.read_mem (b : Bus) (addr : Word) : (b.read addr).2.mem = b.mem := by
  unfold Bus.read; split <;> (try split) <;> rfl

@[simp] theorem Bus.read_map (b : Bus) (addr : Word) : (b.read addr).2.map = b.map := by
  unfold Bus.read; split <;> (try split) <;> rfl

@[simp] theorem Bus.read_openBus (b : Bus) (addr : Word) : (b.read addr).2.openBus = b.openBus := by
  unfold Bus.read; split <;> (try split) <;> rfl

/-- A bus write changes no address decode and no policy. -/
@[simp] theorem Bus.write_map (b : Bus) (cyc : Nat) (addr : Word) (v : Byte) : (b.write cyc addr v).1.map = b.map := by
  unfold Bus.write; split <;> rfl

@[simp] theorem Bus.write_openBus (b : Bus) (cyc : Nat) (addr : Word) (v : Byte) :
    (b.write cyc addr v).1.openBus = b.openBus := by
  unfold Bus.write; split <;> rfl

/-- What a bus write can do to memory: it stores at the address's RAM place, or changes no memory. -/
theorem Bus.write_mem (b : Bus) (cyc : Nat) (addr : Word) (v : Byte) :
    (∃ k, b.place addr = some (.ram, k) ∧ (b.write cyc addr v).1.mem = b.mem.write k v) ∨
    (b.write cyc addr v).1.mem = b.mem := by
  unfold Bus.write
  split
  · rename_i k h
    exact .inl ⟨k, h, rfl⟩
  all_goals exact .inr rfl

/-- A bus write keeps the canonical form of memory. -/
theorem Bus.write_wf (b : Bus) (cyc : Nat) (addr : Word) (v : Byte) (h : b.mem.wf = true) :
    (b.write cyc addr v).1.mem.wf = true := by
  obtain ⟨k, hp, hm⟩ | hm := b.write_mem cyc addr v
  · rw [hm]; exact Memory.write_wf h (Bus.place_lt hp) v
  · rw [hm]; exact h

@[simp] theorem Bus.read_place (b : Bus) (addr a : Word) : (b.read addr).2.place a = b.place a := by
  simp [Bus.place]

@[simp] theorem Bus.write_place (b : Bus) (cyc : Nat) (addr : Word) (v : Byte) (a : Word) :
    (b.write cyc addr v).1.place a = b.place a := by
  simp [Bus.place]

@[simp] theorem Bus.read_cell (b : Bus) (addr a : Word) : (b.read addr).2.cell a = b.cell a := by
  simp [Bus.cell]

@[simp] theorem Bus.write_cell (b : Bus) (cyc : Nat) (addr : Word) (v : Byte) (a : Word) :
    (b.write cyc addr v).1.cell a = b.cell a := by
  simp [Bus.cell]

/-- A device answers from every access it has seen, the bytes written to it among them, and sees each one whole (R100,
R101): its address, its byte, and what memory held. -/
theorem Bus.read_device {b : Bus} {addr : Word} {k : Nat} (h : b.place addr = some (.device, k)) :
    b.read addr = b.readDevice k := by
  simp [Bus.read, h]

theorem Bus.write_device {b : Bus} {addr : Word} {k : Nat} (h : b.place addr = some (.device, k)) (cyc : Nat)
    (v : Byte) :
    (b.write cyc addr v).1.accesses = ⟨.write v, BitVec.ofNat 16 k, b.mem⟩ :: b.accesses := by
  simp [Bus.write, h, Bus.seen]

/-- On a bus of which nothing is known every address is its own device register. -/
theorem Bus.place_anyMap {b : Bus} (h : b.map = anyMap) (addr : Word) : b.place addr = some (.device, addr.toNat) := by
  have := addr.isLt
  simp [Bus.place, h, anyMap, locate, Nat.mod_eq_of_lt this, this]

/-- Nothing changes which addresses lie in ROM. -/
@[simp] theorem Bus.read_inRom (b : Bus) (addr a : Word) : (b.read addr).2.inRom a = b.inRom a := by
  simp [Bus.inRom]

@[simp] theorem Bus.write_inRom (b : Bus) (cyc : Nat) (addr : Word) (v : Byte) (a : Word) :
    (b.write cyc addr v).1.inRom a = b.inRom a := by
  simp [Bus.inRom]

/-- Whether two addresses are apart is a matter of the address decode alone. -/
theorem Bus.apart_congr {b c : Bus} (h : c.map = b.map) (a e : Word) : c.Apart a e ↔ b.Apart a e := by
  simp [Bus.Apart, Bus.cell, Bus.inRom, Bus.place, h]

/-- A bus read is no write to ROM. -/
@[simp] theorem Bus.read_romWritten (b : Bus) (addr : Word) : (b.read addr).2.romWritten = b.romWritten := by
  unfold Bus.read
  split <;> (try split) <;> rfl

/-- A bus write reaches ROM exactly where its address lies in ROM. -/
theorem Bus.write_romWritten (b : Bus) (cyc : Nat) (addr : Word) (v : Byte) (h : ∀ k, b.place addr ≠ some (.rom, k)) :
    (b.write cyc addr v).1.romWritten = b.romWritten := by
  unfold Bus.write
  split
  · rfl
  · rfl
  · rename_i k hk; exact absurd hk (h k)
  · rfl

/-- A bus read changes no byte that RAM or ROM holds. -/
@[simp] theorem Bus.peek_read (b : Bus) (addr a : Word) : (b.read addr).2.peek a = b.peek a := by
  simp [Bus.peek]

/-- A byte that RAM or ROM holds is unchanged by a write to another cell, unless both lie in ROM, where what a write does
is the bus's (R101). -/
theorem Bus.peek_write_apart (b : Bus) (cyc : Nat) (addr a : Word) (v : Byte) (h : b.Apart a addr) :
    (b.write cyc addr v).1.peek a = b.peek a := by
  have hne : ∀ k kind j, b.place addr = some (.ram, k) → b.place a = some (kind, j) → k ≠ j := by
    rintro k kind j hk hj rfl
    exact h.1 (by simp [Bus.cell, hj, hk])
  have hread : ∀ kind j, b.place a = some (kind, j) → (b.write cyc addr v).1.mem.read j = b.mem.read j := by
    intro kind j hj
    obtain ⟨k, hk, hm⟩ | hm := b.write_mem cyc addr v
    · rw [hm, Memory.read_write_ne _ (hne k kind j hk hj)]
    · rw [hm]
  unfold Bus.peek
  rw [Bus.write_place]
  split
  · rename_i j hj; rw [hread _ _ hj]
  · rename_i j hj
    have : ∀ k, b.place addr ≠ some (.rom, k) := by
      intro k hk
      have := h.2 (by simp [Bus.inRom, hj])
      simp [Bus.inRom, hk] at this
    rw [b.write_romWritten cyc addr v this, hread _ _ hj]
  all_goals rfl

/-- A RAM address gives back the byte written to it. -/
theorem Bus.peek_write_self (b : Bus) (cyc : Nat) (addr : Word) (v : Byte) {k : Nat} (hw : b.mem.wf = true)
    (h : b.place addr = some (.ram, k)) : (b.write cyc addr v).1.peek addr = some v := by
  simp [Bus.peek, Bus.write, Bus.place, show locate b.map addr.toNat = some (.ram, k) from h,
    Memory.read_write_self hw]

end Sys2Proof.Machine
end

