-- ==== Sys2Proof/Laws/State.lean ====
section
/-! SUPPORT. The fields of a state after each named update: the one that is written, and every other, which is not.
No later proof unfolds a record update. -/

namespace Sys2Proof.Machine

@[simp] theorem State.setA_a (s : State) (v : Byte) : (s.setA v).a = v := rfl
@[simp] theorem State.setA_x (s : State) (v : Byte) : (s.setA v).x = s.x := rfl
@[simp] theorem State.setA_y (s : State) (v : Byte) : (s.setA v).y = s.y := rfl
@[simp] theorem State.setA_sp (s : State) (v : Byte) : (s.setA v).sp = s.sp := rfl
@[simp] theorem State.setA_pc (s : State) (v : Byte) : (s.setA v).pc = s.pc := rfl
@[simp] theorem State.setA_p (s : State) (v : Byte) : (s.setA v).p = s.p := rfl
@[simp] theorem State.setA_cyc (s : State) (v : Byte) : (s.setA v).cyc = s.cyc := rfl
@[simp] theorem State.setA_nmiLatch (s : State) (v : Byte) : (s.setA v).nmiLatch = s.nmiLatch := rfl
@[simp] theorem State.setA_irqLine (s : State) (v : Byte) : (s.setA v).irqLine = s.irqLine := rfl
@[simp] theorem State.setA_iPoll (s : State) (v : Byte) : (s.setA v).iPoll = s.iPoll := rfl
@[simp] theorem State.setA_fault (s : State) (v : Byte) : (s.setA v).fault = s.fault := rfl
@[simp] theorem State.setA_busAttached (s : State) (v : Byte) : (s.setA v).busAttached = s.busAttached := rfl
@[simp] theorem State.setA_bus (s : State) (v : Byte) : (s.setA v).bus = s.bus := rfl

@[simp] theorem State.setX_a (s : State) (v : Byte) : (s.setX v).a = s.a := rfl
@[simp] theorem State.setX_x (s : State) (v : Byte) : (s.setX v).x = v := rfl
@[simp] theorem State.setX_y (s : State) (v : Byte) : (s.setX v).y = s.y := rfl
@[simp] theorem State.setX_sp (s : State) (v : Byte) : (s.setX v).sp = s.sp := rfl
@[simp] theorem State.setX_pc (s : State) (v : Byte) : (s.setX v).pc = s.pc := rfl
@[simp] theorem State.setX_p (s : State) (v : Byte) : (s.setX v).p = s.p := rfl
@[simp] theorem State.setX_cyc (s : State) (v : Byte) : (s.setX v).cyc = s.cyc := rfl
@[simp] theorem State.setX_nmiLatch (s : State) (v : Byte) : (s.setX v).nmiLatch = s.nmiLatch := rfl
@[simp] theorem State.setX_irqLine (s : State) (v : Byte) : (s.setX v).irqLine = s.irqLine := rfl
@[simp] theorem State.setX_iPoll (s : State) (v : Byte) : (s.setX v).iPoll = s.iPoll := rfl
@[simp] theorem State.setX_fault (s : State) (v : Byte) : (s.setX v).fault = s.fault := rfl
@[simp] theorem State.setX_busAttached (s : State) (v : Byte) : (s.setX v).busAttached = s.busAttached := rfl
@[simp] theorem State.setX_bus (s : State) (v : Byte) : (s.setX v).bus = s.bus := rfl

@[simp] theorem State.setY_a (s : State) (v : Byte) : (s.setY v).a = s.a := rfl
@[simp] theorem State.setY_x (s : State) (v : Byte) : (s.setY v).x = s.x := rfl
@[simp] theorem State.setY_y (s : State) (v : Byte) : (s.setY v).y = v := rfl
@[simp] theorem State.setY_sp (s : State) (v : Byte) : (s.setY v).sp = s.sp := rfl
@[simp] theorem State.setY_pc (s : State) (v : Byte) : (s.setY v).pc = s.pc := rfl
@[simp] theorem State.setY_p (s : State) (v : Byte) : (s.setY v).p = s.p := rfl
@[simp] theorem State.setY_cyc (s : State) (v : Byte) : (s.setY v).cyc = s.cyc := rfl
@[simp] theorem State.setY_nmiLatch (s : State) (v : Byte) : (s.setY v).nmiLatch = s.nmiLatch := rfl
@[simp] theorem State.setY_irqLine (s : State) (v : Byte) : (s.setY v).irqLine = s.irqLine := rfl
@[simp] theorem State.setY_iPoll (s : State) (v : Byte) : (s.setY v).iPoll = s.iPoll := rfl
@[simp] theorem State.setY_fault (s : State) (v : Byte) : (s.setY v).fault = s.fault := rfl
@[simp] theorem State.setY_busAttached (s : State) (v : Byte) : (s.setY v).busAttached = s.busAttached := rfl
@[simp] theorem State.setY_bus (s : State) (v : Byte) : (s.setY v).bus = s.bus := rfl

@[simp] theorem State.setSP_a (s : State) (v : Byte) : (s.setSP v).a = s.a := rfl
@[simp] theorem State.setSP_x (s : State) (v : Byte) : (s.setSP v).x = s.x := rfl
@[simp] theorem State.setSP_y (s : State) (v : Byte) : (s.setSP v).y = s.y := rfl
@[simp] theorem State.setSP_sp (s : State) (v : Byte) : (s.setSP v).sp = v := rfl
@[simp] theorem State.setSP_pc (s : State) (v : Byte) : (s.setSP v).pc = s.pc := rfl
@[simp] theorem State.setSP_p (s : State) (v : Byte) : (s.setSP v).p = s.p := rfl
@[simp] theorem State.setSP_cyc (s : State) (v : Byte) : (s.setSP v).cyc = s.cyc := rfl
@[simp] theorem State.setSP_nmiLatch (s : State) (v : Byte) : (s.setSP v).nmiLatch = s.nmiLatch := rfl
@[simp] theorem State.setSP_irqLine (s : State) (v : Byte) : (s.setSP v).irqLine = s.irqLine := rfl
@[simp] theorem State.setSP_iPoll (s : State) (v : Byte) : (s.setSP v).iPoll = s.iPoll := rfl
@[simp] theorem State.setSP_fault (s : State) (v : Byte) : (s.setSP v).fault = s.fault := rfl
@[simp] theorem State.setSP_busAttached (s : State) (v : Byte) : (s.setSP v).busAttached = s.busAttached := rfl
@[simp] theorem State.setSP_bus (s : State) (v : Byte) : (s.setSP v).bus = s.bus := rfl

@[simp] theorem State.setPC_a (s : State) (v : Word) : (s.setPC v).a = s.a := rfl
@[simp] theorem State.setPC_x (s : State) (v : Word) : (s.setPC v).x = s.x := rfl
@[simp] theorem State.setPC_y (s : State) (v : Word) : (s.setPC v).y = s.y := rfl
@[simp] theorem State.setPC_sp (s : State) (v : Word) : (s.setPC v).sp = s.sp := rfl
@[simp] theorem State.setPC_pc (s : State) (v : Word) : (s.setPC v).pc = v := rfl
@[simp] theorem State.setPC_p (s : State) (v : Word) : (s.setPC v).p = s.p := rfl
@[simp] theorem State.setPC_cyc (s : State) (v : Word) : (s.setPC v).cyc = s.cyc := rfl
@[simp] theorem State.setPC_nmiLatch (s : State) (v : Word) : (s.setPC v).nmiLatch = s.nmiLatch := rfl
@[simp] theorem State.setPC_irqLine (s : State) (v : Word) : (s.setPC v).irqLine = s.irqLine := rfl
@[simp] theorem State.setPC_iPoll (s : State) (v : Word) : (s.setPC v).iPoll = s.iPoll := rfl
@[simp] theorem State.setPC_fault (s : State) (v : Word) : (s.setPC v).fault = s.fault := rfl
@[simp] theorem State.setPC_busAttached (s : State) (v : Word) : (s.setPC v).busAttached = s.busAttached := rfl
@[simp] theorem State.setPC_bus (s : State) (v : Word) : (s.setPC v).bus = s.bus := rfl

@[simp] theorem State.setP_a (s : State) (v : Flags) : (s.setP v).a = s.a := rfl
@[simp] theorem State.setP_x (s : State) (v : Flags) : (s.setP v).x = s.x := rfl
@[simp] theorem State.setP_y (s : State) (v : Flags) : (s.setP v).y = s.y := rfl
@[simp] theorem State.setP_sp (s : State) (v : Flags) : (s.setP v).sp = s.sp := rfl
@[simp] theorem State.setP_pc (s : State) (v : Flags) : (s.setP v).pc = s.pc := rfl
@[simp] theorem State.setP_p (s : State) (v : Flags) : (s.setP v).p = v := rfl
@[simp] theorem State.setP_cyc (s : State) (v : Flags) : (s.setP v).cyc = s.cyc := rfl
@[simp] theorem State.setP_nmiLatch (s : State) (v : Flags) : (s.setP v).nmiLatch = s.nmiLatch := rfl
@[simp] theorem State.setP_irqLine (s : State) (v : Flags) : (s.setP v).irqLine = s.irqLine := rfl
@[simp] theorem State.setP_iPoll (s : State) (v : Flags) : (s.setP v).iPoll = s.iPoll := rfl
@[simp] theorem State.setP_fault (s : State) (v : Flags) : (s.setP v).fault = s.fault := rfl
@[simp] theorem State.setP_busAttached (s : State) (v : Flags) : (s.setP v).busAttached = s.busAttached := rfl
@[simp] theorem State.setP_bus (s : State) (v : Flags) : (s.setP v).bus = s.bus := rfl

@[simp] theorem State.setIPoll_a (s : State) (v : Bool) : (s.setIPoll v).a = s.a := rfl
@[simp] theorem State.setIPoll_x (s : State) (v : Bool) : (s.setIPoll v).x = s.x := rfl
@[simp] theorem State.setIPoll_y (s : State) (v : Bool) : (s.setIPoll v).y = s.y := rfl
@[simp] theorem State.setIPoll_sp (s : State) (v : Bool) : (s.setIPoll v).sp = s.sp := rfl
@[simp] theorem State.setIPoll_pc (s : State) (v : Bool) : (s.setIPoll v).pc = s.pc := rfl
@[simp] theorem State.setIPoll_p (s : State) (v : Bool) : (s.setIPoll v).p = s.p := rfl
@[simp] theorem State.setIPoll_cyc (s : State) (v : Bool) : (s.setIPoll v).cyc = s.cyc := rfl
@[simp] theorem State.setIPoll_nmiLatch (s : State) (v : Bool) : (s.setIPoll v).nmiLatch = s.nmiLatch := rfl
@[simp] theorem State.setIPoll_irqLine (s : State) (v : Bool) : (s.setIPoll v).irqLine = s.irqLine := rfl
@[simp] theorem State.setIPoll_iPoll (s : State) (v : Bool) : (s.setIPoll v).iPoll = v := rfl
@[simp] theorem State.setIPoll_fault (s : State) (v : Bool) : (s.setIPoll v).fault = s.fault := rfl
@[simp] theorem State.setIPoll_busAttached (s : State) (v : Bool) : (s.setIPoll v).busAttached = s.busAttached := rfl
@[simp] theorem State.setIPoll_bus (s : State) (v : Bool) : (s.setIPoll v).bus = s.bus := rfl

@[simp] theorem State.setNmi_a (s : State) (v : Bool) : (s.setNmi v).a = s.a := rfl
@[simp] theorem State.setNmi_x (s : State) (v : Bool) : (s.setNmi v).x = s.x := rfl
@[simp] theorem State.setNmi_y (s : State) (v : Bool) : (s.setNmi v).y = s.y := rfl
@[simp] theorem State.setNmi_sp (s : State) (v : Bool) : (s.setNmi v).sp = s.sp := rfl
@[simp] theorem State.setNmi_pc (s : State) (v : Bool) : (s.setNmi v).pc = s.pc := rfl
@[simp] theorem State.setNmi_p (s : State) (v : Bool) : (s.setNmi v).p = s.p := rfl
@[simp] theorem State.setNmi_cyc (s : State) (v : Bool) : (s.setNmi v).cyc = s.cyc := rfl
@[simp] theorem State.setNmi_nmiLatch (s : State) (v : Bool) : (s.setNmi v).nmiLatch = v := rfl
@[simp] theorem State.setNmi_irqLine (s : State) (v : Bool) : (s.setNmi v).irqLine = s.irqLine := rfl
@[simp] theorem State.setNmi_iPoll (s : State) (v : Bool) : (s.setNmi v).iPoll = s.iPoll := rfl
@[simp] theorem State.setNmi_fault (s : State) (v : Bool) : (s.setNmi v).fault = s.fault := rfl
@[simp] theorem State.setNmi_busAttached (s : State) (v : Bool) : (s.setNmi v).busAttached = s.busAttached := rfl
@[simp] theorem State.setNmi_bus (s : State) (v : Bool) : (s.setNmi v).bus = s.bus := rfl

@[simp] theorem State.setIrq_a (s : State) (v : Bool) : (s.setIrq v).a = s.a := rfl
@[simp] theorem State.setIrq_x (s : State) (v : Bool) : (s.setIrq v).x = s.x := rfl
@[simp] theorem State.setIrq_y (s : State) (v : Bool) : (s.setIrq v).y = s.y := rfl
@[simp] theorem State.setIrq_sp (s : State) (v : Bool) : (s.setIrq v).sp = s.sp := rfl
@[simp] theorem State.setIrq_pc (s : State) (v : Bool) : (s.setIrq v).pc = s.pc := rfl
@[simp] theorem State.setIrq_p (s : State) (v : Bool) : (s.setIrq v).p = s.p := rfl
@[simp] theorem State.setIrq_cyc (s : State) (v : Bool) : (s.setIrq v).cyc = s.cyc := rfl
@[simp] theorem State.setIrq_nmiLatch (s : State) (v : Bool) : (s.setIrq v).nmiLatch = s.nmiLatch := rfl
@[simp] theorem State.setIrq_irqLine (s : State) (v : Bool) : (s.setIrq v).irqLine = v := rfl
@[simp] theorem State.setIrq_iPoll (s : State) (v : Bool) : (s.setIrq v).iPoll = s.iPoll := rfl
@[simp] theorem State.setIrq_fault (s : State) (v : Bool) : (s.setIrq v).fault = s.fault := rfl
@[simp] theorem State.setIrq_busAttached (s : State) (v : Bool) : (s.setIrq v).busAttached = s.busAttached := rfl
@[simp] theorem State.setIrq_bus (s : State) (v : Bool) : (s.setIrq v).bus = s.bus := rfl

@[simp] theorem State.setFault_a (s : State) (v : Option CoreFault) : (s.setFault v).a = s.a := rfl
@[simp] theorem State.setFault_x (s : State) (v : Option CoreFault) : (s.setFault v).x = s.x := rfl
@[simp] theorem State.setFault_y (s : State) (v : Option CoreFault) : (s.setFault v).y = s.y := rfl
@[simp] theorem State.setFault_sp (s : State) (v : Option CoreFault) : (s.setFault v).sp = s.sp := rfl
@[simp] theorem State.setFault_pc (s : State) (v : Option CoreFault) : (s.setFault v).pc = s.pc := rfl
@[simp] theorem State.setFault_p (s : State) (v : Option CoreFault) : (s.setFault v).p = s.p := rfl
@[simp] theorem State.setFault_cyc (s : State) (v : Option CoreFault) : (s.setFault v).cyc = s.cyc := rfl
@[simp] theorem State.setFault_nmiLatch (s : State) (v : Option CoreFault) : (s.setFault v).nmiLatch = s.nmiLatch := rfl
@[simp] theorem State.setFault_irqLine (s : State) (v : Option CoreFault) : (s.setFault v).irqLine = s.irqLine := rfl
@[simp] theorem State.setFault_iPoll (s : State) (v : Option CoreFault) : (s.setFault v).iPoll = s.iPoll := rfl
@[simp] theorem State.setFault_fault (s : State) (v : Option CoreFault) : (s.setFault v).fault = v := rfl
@[simp] theorem State.setFault_busAttached (s : State) (v : Option CoreFault) : (s.setFault v).busAttached = s.busAttached := rfl
@[simp] theorem State.setFault_bus (s : State) (v : Option CoreFault) : (s.setFault v).bus = s.bus := rfl

@[simp] theorem State.addCycles_a (s : State) (v : Nat) : (s.addCycles v).a = s.a := rfl
@[simp] theorem State.addCycles_x (s : State) (v : Nat) : (s.addCycles v).x = s.x := rfl
@[simp] theorem State.addCycles_y (s : State) (v : Nat) : (s.addCycles v).y = s.y := rfl
@[simp] theorem State.addCycles_sp (s : State) (v : Nat) : (s.addCycles v).sp = s.sp := rfl
@[simp] theorem State.addCycles_pc (s : State) (v : Nat) : (s.addCycles v).pc = s.pc := rfl
@[simp] theorem State.addCycles_p (s : State) (v : Nat) : (s.addCycles v).p = s.p := rfl
@[simp] theorem State.addCycles_cyc (s : State) (v : Nat) : (s.addCycles v).cyc = s.cyc + v := rfl
@[simp] theorem State.addCycles_nmiLatch (s : State) (v : Nat) : (s.addCycles v).nmiLatch = s.nmiLatch := rfl
@[simp] theorem State.addCycles_irqLine (s : State) (v : Nat) : (s.addCycles v).irqLine = s.irqLine := rfl
@[simp] theorem State.addCycles_iPoll (s : State) (v : Nat) : (s.addCycles v).iPoll = s.iPoll := rfl
@[simp] theorem State.addCycles_fault (s : State) (v : Nat) : (s.addCycles v).fault = s.fault := rfl
@[simp] theorem State.addCycles_busAttached (s : State) (v : Nat) : (s.addCycles v).busAttached = s.busAttached := rfl
@[simp] theorem State.addCycles_bus (s : State) (v : Nat) : (s.addCycles v).bus = s.bus := rfl

@[simp] theorem State.setAttached_a (s : State) (v : Bool) : (s.setAttached v).a = s.a := rfl
@[simp] theorem State.setAttached_x (s : State) (v : Bool) : (s.setAttached v).x = s.x := rfl
@[simp] theorem State.setAttached_y (s : State) (v : Bool) : (s.setAttached v).y = s.y := rfl
@[simp] theorem State.setAttached_sp (s : State) (v : Bool) : (s.setAttached v).sp = s.sp := rfl
@[simp] theorem State.setAttached_pc (s : State) (v : Bool) : (s.setAttached v).pc = s.pc := rfl
@[simp] theorem State.setAttached_p (s : State) (v : Bool) : (s.setAttached v).p = s.p := rfl
@[simp] theorem State.setAttached_cyc (s : State) (v : Bool) : (s.setAttached v).cyc = s.cyc := rfl
@[simp] theorem State.setAttached_nmiLatch (s : State) (v : Bool) : (s.setAttached v).nmiLatch = s.nmiLatch := rfl
@[simp] theorem State.setAttached_irqLine (s : State) (v : Bool) : (s.setAttached v).irqLine = s.irqLine := rfl
@[simp] theorem State.setAttached_iPoll (s : State) (v : Bool) : (s.setAttached v).iPoll = s.iPoll := rfl
@[simp] theorem State.setAttached_fault (s : State) (v : Bool) : (s.setAttached v).fault = s.fault := rfl
@[simp] theorem State.setAttached_busAttached (s : State) (v : Bool) : (s.setAttached v).busAttached = v := rfl
@[simp] theorem State.setAttached_bus (s : State) (v : Bool) : (s.setAttached v).bus = s.bus := rfl

@[simp] theorem State.setBus_a (s : State) (v : Bus) : (s.setBus v).a = s.a := rfl
@[simp] theorem State.setBus_x (s : State) (v : Bus) : (s.setBus v).x = s.x := rfl
@[simp] theorem State.setBus_y (s : State) (v : Bus) : (s.setBus v).y = s.y := rfl
@[simp] theorem State.setBus_sp (s : State) (v : Bus) : (s.setBus v).sp = s.sp := rfl
@[simp] theorem State.setBus_pc (s : State) (v : Bus) : (s.setBus v).pc = s.pc := rfl
@[simp] theorem State.setBus_p (s : State) (v : Bus) : (s.setBus v).p = s.p := rfl
@[simp] theorem State.setBus_cyc (s : State) (v : Bus) : (s.setBus v).cyc = s.cyc := rfl
@[simp] theorem State.setBus_nmiLatch (s : State) (v : Bus) : (s.setBus v).nmiLatch = s.nmiLatch := rfl
@[simp] theorem State.setBus_irqLine (s : State) (v : Bus) : (s.setBus v).irqLine = s.irqLine := rfl
@[simp] theorem State.setBus_iPoll (s : State) (v : Bus) : (s.setBus v).iPoll = s.iPoll := rfl
@[simp] theorem State.setBus_fault (s : State) (v : Bus) : (s.setBus v).fault = s.fault := rfl
@[simp] theorem State.setBus_busAttached (s : State) (v : Bus) : (s.setBus v).busAttached = s.busAttached := rfl
@[simp] theorem State.setBus_bus (s : State) (v : Bus) : (s.setBus v).bus = v := rfl

@[simp] theorem State.setNZ_a (s : State) (r : Byte) : (s.setNZ r).a = s.a := rfl
@[simp] theorem State.setNZ_x (s : State) (r : Byte) : (s.setNZ r).x = s.x := rfl
@[simp] theorem State.setNZ_y (s : State) (r : Byte) : (s.setNZ r).y = s.y := rfl
@[simp] theorem State.setNZ_sp (s : State) (r : Byte) : (s.setNZ r).sp = s.sp := rfl
@[simp] theorem State.setNZ_pc (s : State) (r : Byte) : (s.setNZ r).pc = s.pc := rfl
@[simp] theorem State.setNZ_p (s : State) (r : Byte) : (s.setNZ r).p = Sys2Proof.Machine.setNZ r s.p := rfl
@[simp] theorem State.setNZ_cyc (s : State) (r : Byte) : (s.setNZ r).cyc = s.cyc := rfl
@[simp] theorem State.setNZ_nmiLatch (s : State) (r : Byte) : (s.setNZ r).nmiLatch = s.nmiLatch := rfl
@[simp] theorem State.setNZ_irqLine (s : State) (r : Byte) : (s.setNZ r).irqLine = s.irqLine := rfl
@[simp] theorem State.setNZ_iPoll (s : State) (r : Byte) : (s.setNZ r).iPoll = s.iPoll := rfl
@[simp] theorem State.setNZ_fault (s : State) (r : Byte) : (s.setNZ r).fault = s.fault := rfl
@[simp] theorem State.setNZ_busAttached (s : State) (r : Byte) : (s.setNZ r).busAttached = s.busAttached := rfl
@[simp] theorem State.setNZ_bus (s : State) (r : Byte) : (s.setNZ r).bus = s.bus := rfl

end Sys2Proof.Machine
end

