-- ==== Sys2Proof/Laws/Ops.lean ====
section
/-! SUPPORT. What each shared operation can do, said once: the fields it leaves alone (one lemma a field), and what it
does to the others. A prover cites these and does not unfold the operation. -/

namespace Sys2Proof.Machine

/-! ### memRead: a read changes only the bus. -/

@[simp] theorem memRead_a (s : State) (addr : Word) : (memRead s addr).state.a = s.a := rfl
@[simp] theorem memRead_x (s : State) (addr : Word) : (memRead s addr).state.x = s.x := rfl
@[simp] theorem memRead_y (s : State) (addr : Word) : (memRead s addr).state.y = s.y := rfl
@[simp] theorem memRead_sp (s : State) (addr : Word) : (memRead s addr).state.sp = s.sp := rfl
@[simp] theorem memRead_pc (s : State) (addr : Word) : (memRead s addr).state.pc = s.pc := rfl
@[simp] theorem memRead_p (s : State) (addr : Word) : (memRead s addr).state.p = s.p := rfl
@[simp] theorem memRead_cyc (s : State) (addr : Word) : (memRead s addr).state.cyc = s.cyc := rfl
@[simp] theorem memRead_nmiLatch (s : State) (addr : Word) : (memRead s addr).state.nmiLatch = s.nmiLatch := rfl
@[simp] theorem memRead_irqLine (s : State) (addr : Word) : (memRead s addr).state.irqLine = s.irqLine := rfl
@[simp] theorem memRead_iPoll (s : State) (addr : Word) : (memRead s addr).state.iPoll = s.iPoll := rfl
@[simp] theorem memRead_fault (s : State) (addr : Word) : (memRead s addr).state.fault = s.fault := rfl
@[simp] theorem memRead_busAttached (s : State) (addr : Word) : (memRead s addr).state.busAttached = s.busAttached := rfl

/-! ### memWrite: a write changes only the bus. -/

@[simp] theorem memWrite_a (s : State) (addr : Word) (v : Byte) : (memWrite s addr v).state.a = s.a := rfl
@[simp] theorem memWrite_x (s : State) (addr : Word) (v : Byte) : (memWrite s addr v).state.x = s.x := rfl
@[simp] theorem memWrite_y (s : State) (addr : Word) (v : Byte) : (memWrite s addr v).state.y = s.y := rfl
@[simp] theorem memWrite_sp (s : State) (addr : Word) (v : Byte) : (memWrite s addr v).state.sp = s.sp := rfl
@[simp] theorem memWrite_pc (s : State) (addr : Word) (v : Byte) : (memWrite s addr v).state.pc = s.pc := rfl
@[simp] theorem memWrite_p (s : State) (addr : Word) (v : Byte) : (memWrite s addr v).state.p = s.p := rfl
@[simp] theorem memWrite_cyc (s : State) (addr : Word) (v : Byte) : (memWrite s addr v).state.cyc = s.cyc := rfl
@[simp] theorem memWrite_nmiLatch (s : State) (addr : Word) (v : Byte) : (memWrite s addr v).state.nmiLatch = s.nmiLatch := rfl
@[simp] theorem memWrite_irqLine (s : State) (addr : Word) (v : Byte) : (memWrite s addr v).state.irqLine = s.irqLine := rfl
@[simp] theorem memWrite_iPoll (s : State) (addr : Word) (v : Byte) : (memWrite s addr v).state.iPoll = s.iPoll := rfl
@[simp] theorem memWrite_fault (s : State) (addr : Word) (v : Byte) : (memWrite s addr v).state.fault = s.fault := rfl
@[simp] theorem memWrite_busAttached (s : State) (addr : Word) (v : Byte) : (memWrite s addr v).state.busAttached = s.busAttached := rfl

/-! ### fetchByte: a fetch changes PC and the bus. -/

@[simp] theorem fetchByte_a (s : State) : (fetchByte s).state.a = s.a := rfl
@[simp] theorem fetchByte_x (s : State) : (fetchByte s).state.x = s.x := rfl
@[simp] theorem fetchByte_y (s : State) : (fetchByte s).state.y = s.y := rfl
@[simp] theorem fetchByte_sp (s : State) : (fetchByte s).state.sp = s.sp := rfl
@[simp] theorem fetchByte_pc (s : State) : (fetchByte s).state.pc = s.pc + 1#16 := rfl
@[simp] theorem fetchByte_p (s : State) : (fetchByte s).state.p = s.p := rfl
@[simp] theorem fetchByte_cyc (s : State) : (fetchByte s).state.cyc = s.cyc := rfl
@[simp] theorem fetchByte_nmiLatch (s : State) : (fetchByte s).state.nmiLatch = s.nmiLatch := rfl
@[simp] theorem fetchByte_irqLine (s : State) : (fetchByte s).state.irqLine = s.irqLine := rfl
@[simp] theorem fetchByte_iPoll (s : State) : (fetchByte s).state.iPoll = s.iPoll := rfl
@[simp] theorem fetchByte_fault (s : State) : (fetchByte s).state.fault = s.fault := rfl
@[simp] theorem fetchByte_busAttached (s : State) : (fetchByte s).state.busAttached = s.busAttached := rfl

/-! ### push: a push changes SP and the bus. -/

@[simp] theorem push_a (s : State) (v : Byte) : (push s v).state.a = s.a := rfl
@[simp] theorem push_x (s : State) (v : Byte) : (push s v).state.x = s.x := rfl
@[simp] theorem push_y (s : State) (v : Byte) : (push s v).state.y = s.y := rfl
@[simp] theorem push_sp (s : State) (v : Byte) : (push s v).state.sp = s.sp - 1#8 := rfl
@[simp] theorem push_pc (s : State) (v : Byte) : (push s v).state.pc = s.pc := rfl
@[simp] theorem push_p (s : State) (v : Byte) : (push s v).state.p = s.p := rfl
@[simp] theorem push_cyc (s : State) (v : Byte) : (push s v).state.cyc = s.cyc := rfl
@[simp] theorem push_nmiLatch (s : State) (v : Byte) : (push s v).state.nmiLatch = s.nmiLatch := rfl
@[simp] theorem push_irqLine (s : State) (v : Byte) : (push s v).state.irqLine = s.irqLine := rfl
@[simp] theorem push_iPoll (s : State) (v : Byte) : (push s v).state.iPoll = s.iPoll := rfl
@[simp] theorem push_fault (s : State) (v : Byte) : (push s v).state.fault = s.fault := rfl
@[simp] theorem push_busAttached (s : State) (v : Byte) : (push s v).state.busAttached = s.busAttached := rfl

/-! ### pull: a pull changes SP and the bus. -/

@[simp] theorem pull_a (s : State) : (pull s).state.a = s.a := rfl
@[simp] theorem pull_x (s : State) : (pull s).state.x = s.x := rfl
@[simp] theorem pull_y (s : State) : (pull s).state.y = s.y := rfl
@[simp] theorem pull_sp (s : State) : (pull s).state.sp = s.sp + 1#8 := rfl
@[simp] theorem pull_pc (s : State) : (pull s).state.pc = s.pc := rfl
@[simp] theorem pull_p (s : State) : (pull s).state.p = s.p := rfl
@[simp] theorem pull_cyc (s : State) : (pull s).state.cyc = s.cyc := rfl
@[simp] theorem pull_nmiLatch (s : State) : (pull s).state.nmiLatch = s.nmiLatch := rfl
@[simp] theorem pull_irqLine (s : State) : (pull s).state.irqLine = s.irqLine := rfl
@[simp] theorem pull_iPoll (s : State) : (pull s).state.iPoll = s.iPoll := rfl
@[simp] theorem pull_fault (s : State) : (pull s).state.fault = s.fault := rfl
@[simp] theorem pull_busAttached (s : State) : (pull s).state.busAttached = s.busAttached := rfl

/-! ### pushWord: two pushes. -/

@[simp] theorem pushWord_a (s : State) (v : Word) : (pushWord s v).state.a = s.a := by simp [pushWord]
@[simp] theorem pushWord_x (s : State) (v : Word) : (pushWord s v).state.x = s.x := by simp [pushWord]
@[simp] theorem pushWord_y (s : State) (v : Word) : (pushWord s v).state.y = s.y := by simp [pushWord]
@[simp] theorem pushWord_sp (s : State) (v : Word) : (pushWord s v).state.sp = s.sp - 1#8 - 1#8 := by simp [pushWord]
@[simp] theorem pushWord_pc (s : State) (v : Word) : (pushWord s v).state.pc = s.pc := by simp [pushWord]
@[simp] theorem pushWord_p (s : State) (v : Word) : (pushWord s v).state.p = s.p := by simp [pushWord]
@[simp] theorem pushWord_cyc (s : State) (v : Word) : (pushWord s v).state.cyc = s.cyc := by simp [pushWord]
@[simp] theorem pushWord_nmiLatch (s : State) (v : Word) : (pushWord s v).state.nmiLatch = s.nmiLatch := by simp [pushWord]
@[simp] theorem pushWord_irqLine (s : State) (v : Word) : (pushWord s v).state.irqLine = s.irqLine := by simp [pushWord]
@[simp] theorem pushWord_iPoll (s : State) (v : Word) : (pushWord s v).state.iPoll = s.iPoll := by simp [pushWord]
@[simp] theorem pushWord_fault (s : State) (v : Word) : (pushWord s v).state.fault = s.fault := by simp [pushWord]
@[simp] theorem pushWord_busAttached (s : State) (v : Word) : (pushWord s v).state.busAttached = s.busAttached := by simp [pushWord]

/-! ### pullWord: two pulls. -/

@[simp] theorem pullWord_a (s : State) : (pullWord s).state.a = s.a := by simp [pullWord]
@[simp] theorem pullWord_x (s : State) : (pullWord s).state.x = s.x := by simp [pullWord]
@[simp] theorem pullWord_y (s : State) : (pullWord s).state.y = s.y := by simp [pullWord]
@[simp] theorem pullWord_sp (s : State) : (pullWord s).state.sp = s.sp + 1#8 + 1#8 := by simp [pullWord]
@[simp] theorem pullWord_pc (s : State) : (pullWord s).state.pc = s.pc := by simp [pullWord]
@[simp] theorem pullWord_p (s : State) : (pullWord s).state.p = s.p := by simp [pullWord]
@[simp] theorem pullWord_cyc (s : State) : (pullWord s).state.cyc = s.cyc := by simp [pullWord]
@[simp] theorem pullWord_nmiLatch (s : State) : (pullWord s).state.nmiLatch = s.nmiLatch := by simp [pullWord]
@[simp] theorem pullWord_irqLine (s : State) : (pullWord s).state.irqLine = s.irqLine := by simp [pullWord]
@[simp] theorem pullWord_iPoll (s : State) : (pullWord s).state.iPoll = s.iPoll := by simp [pullWord]
@[simp] theorem pullWord_fault (s : State) : (pullWord s).state.fault = s.fault := by simp [pullWord]
@[simp] theorem pullWord_busAttached (s : State) : (pullWord s).state.busAttached = s.busAttached := by simp [pullWord]

/-! ### readWord: two reads. -/

@[simp] theorem readWord_a (s : State) (lo hi : Word) : (readWord s lo hi).state.a = s.a := by simp [readWord]
@[simp] theorem readWord_x (s : State) (lo hi : Word) : (readWord s lo hi).state.x = s.x := by simp [readWord]
@[simp] theorem readWord_y (s : State) (lo hi : Word) : (readWord s lo hi).state.y = s.y := by simp [readWord]
@[simp] theorem readWord_sp (s : State) (lo hi : Word) : (readWord s lo hi).state.sp = s.sp := by simp [readWord]
@[simp] theorem readWord_pc (s : State) (lo hi : Word) : (readWord s lo hi).state.pc = s.pc := by simp [readWord]
@[simp] theorem readWord_p (s : State) (lo hi : Word) : (readWord s lo hi).state.p = s.p := by simp [readWord]
@[simp] theorem readWord_cyc (s : State) (lo hi : Word) : (readWord s lo hi).state.cyc = s.cyc := by simp [readWord]
@[simp] theorem readWord_nmiLatch (s : State) (lo hi : Word) : (readWord s lo hi).state.nmiLatch = s.nmiLatch := by simp [readWord]
@[simp] theorem readWord_irqLine (s : State) (lo hi : Word) : (readWord s lo hi).state.irqLine = s.irqLine := by simp [readWord]
@[simp] theorem readWord_iPoll (s : State) (lo hi : Word) : (readWord s lo hi).state.iPoll = s.iPoll := by simp [readWord]
@[simp] theorem readWord_fault (s : State) (lo hi : Word) : (readWord s lo hi).state.fault = s.fault := by simp [readWord]
@[simp] theorem readWord_busAttached (s : State) (lo hi : Word) : (readWord s lo hi).state.busAttached = s.busAttached := by simp [readWord]

/-! ### resolve: the resolver changes only the bus. -/

@[simp] theorem resolve_a (m : MemMode) (s : State) : (resolve m s).state.a = s.a := by
  cases m <;> simp [resolve, indexed]
@[simp] theorem resolve_x (m : MemMode) (s : State) : (resolve m s).state.x = s.x := by
  cases m <;> simp [resolve, indexed]
@[simp] theorem resolve_y (m : MemMode) (s : State) : (resolve m s).state.y = s.y := by
  cases m <;> simp [resolve, indexed]
@[simp] theorem resolve_sp (m : MemMode) (s : State) : (resolve m s).state.sp = s.sp := by
  cases m <;> simp [resolve, indexed]
@[simp] theorem resolve_pc (m : MemMode) (s : State) : (resolve m s).state.pc = s.pc := by
  cases m <;> simp [resolve, indexed]
@[simp] theorem resolve_p (m : MemMode) (s : State) : (resolve m s).state.p = s.p := by
  cases m <;> simp [resolve, indexed]
@[simp] theorem resolve_cyc (m : MemMode) (s : State) : (resolve m s).state.cyc = s.cyc := by
  cases m <;> simp [resolve, indexed]
@[simp] theorem resolve_nmiLatch (m : MemMode) (s : State) : (resolve m s).state.nmiLatch = s.nmiLatch := by
  cases m <;> simp [resolve, indexed]
@[simp] theorem resolve_irqLine (m : MemMode) (s : State) : (resolve m s).state.irqLine = s.irqLine := by
  cases m <;> simp [resolve, indexed]
@[simp] theorem resolve_iPoll (m : MemMode) (s : State) : (resolve m s).state.iPoll = s.iPoll := by
  cases m <;> simp [resolve, indexed]
@[simp] theorem resolve_fault (m : MemMode) (s : State) : (resolve m s).state.fault = s.fault := by
  cases m <;> simp [resolve, indexed]
@[simp] theorem resolve_busAttached (m : MemMode) (s : State) : (resolve m s).state.busAttached = s.busAttached := by
  cases m <;> simp [resolve, indexed]

/-! ### readOperand: reading an operand changes only the bus. -/

@[simp] theorem readOperand_a (o : Operand) (s : State) : (readOperand o s).state.a = s.a := by
  cases o <;> simp [readOperand]
@[simp] theorem readOperand_x (o : Operand) (s : State) : (readOperand o s).state.x = s.x := by
  cases o <;> simp [readOperand]
@[simp] theorem readOperand_y (o : Operand) (s : State) : (readOperand o s).state.y = s.y := by
  cases o <;> simp [readOperand]
@[simp] theorem readOperand_sp (o : Operand) (s : State) : (readOperand o s).state.sp = s.sp := by
  cases o <;> simp [readOperand]
@[simp] theorem readOperand_pc (o : Operand) (s : State) : (readOperand o s).state.pc = s.pc := by
  cases o <;> simp [readOperand]
@[simp] theorem readOperand_p (o : Operand) (s : State) : (readOperand o s).state.p = s.p := by
  cases o <;> simp [readOperand]
@[simp] theorem readOperand_cyc (o : Operand) (s : State) : (readOperand o s).state.cyc = s.cyc := by
  cases o <;> simp [readOperand]
@[simp] theorem readOperand_nmiLatch (o : Operand) (s : State) : (readOperand o s).state.nmiLatch = s.nmiLatch := by
  cases o <;> simp [readOperand]
@[simp] theorem readOperand_irqLine (o : Operand) (s : State) : (readOperand o s).state.irqLine = s.irqLine := by
  cases o <;> simp [readOperand]
@[simp] theorem readOperand_iPoll (o : Operand) (s : State) : (readOperand o s).state.iPoll = s.iPoll := by
  cases o <;> simp [readOperand]
@[simp] theorem readOperand_fault (o : Operand) (s : State) : (readOperand o s).state.fault = s.fault := by
  cases o <;> simp [readOperand]
@[simp] theorem readOperand_busAttached (o : Operand) (s : State) : (readOperand o s).state.busAttached = s.busAttached := by
  cases o <;> simp [readOperand]

/-! ### takeException: PC, SP, I and the bus change. -/

@[simp] theorem takeException_a (b : Bool) (v : Word) (s : State) : (takeException b v s).state.a = s.a := by simp [takeException]
@[simp] theorem takeException_x (b : Bool) (v : Word) (s : State) : (takeException b v s).state.x = s.x := by simp [takeException]
@[simp] theorem takeException_y (b : Bool) (v : Word) (s : State) : (takeException b v s).state.y = s.y := by simp [takeException]
@[simp] theorem takeException_sp (b : Bool) (v : Word) (s : State) : (takeException b v s).state.sp = s.sp - 1#8 - 1#8 - 1#8 := by simp [takeException]
@[simp] theorem takeException_p (b : Bool) (v : Word) (s : State) : (takeException b v s).state.p = { s.p with i := true } := by simp [takeException]
@[simp] theorem takeException_cyc (b : Bool) (v : Word) (s : State) : (takeException b v s).state.cyc = s.cyc := by simp [takeException]
@[simp] theorem takeException_nmiLatch (b : Bool) (v : Word) (s : State) : (takeException b v s).state.nmiLatch = s.nmiLatch := by simp [takeException]
@[simp] theorem takeException_irqLine (b : Bool) (v : Word) (s : State) : (takeException b v s).state.irqLine = s.irqLine := by simp [takeException]
@[simp] theorem takeException_iPoll (b : Bool) (v : Word) (s : State) : (takeException b v s).state.iPoll = s.iPoll := by simp [takeException]
@[simp] theorem takeException_fault (b : Bool) (v : Word) (s : State) : (takeException b v s).state.fault = s.fault := by simp [takeException]
@[simp] theorem takeException_busAttached (b : Bool) (v : Word) (s : State) : (takeException b v s).state.busAttached = s.busAttached := by simp [takeException]

/-! ### returnFromException: PC, SP, the flags and the bus change. -/

@[simp] theorem returnFromException_a (s : State) : (returnFromException s).a = s.a := by simp [returnFromException]
@[simp] theorem returnFromException_x (s : State) : (returnFromException s).x = s.x := by simp [returnFromException]
@[simp] theorem returnFromException_y (s : State) : (returnFromException s).y = s.y := by simp [returnFromException]
@[simp] theorem returnFromException_sp (s : State) : (returnFromException s).sp = s.sp + 1#8 + 1#8 + 1#8 := by simp [returnFromException]
@[simp] theorem returnFromException_cyc (s : State) : (returnFromException s).cyc = s.cyc := by simp [returnFromException]
@[simp] theorem returnFromException_nmiLatch (s : State) : (returnFromException s).nmiLatch = s.nmiLatch := by simp [returnFromException]
@[simp] theorem returnFromException_irqLine (s : State) : (returnFromException s).irqLine = s.irqLine := by simp [returnFromException]
@[simp] theorem returnFromException_iPoll (s : State) : (returnFromException s).iPoll = s.iPoll := by simp [returnFromException]
@[simp] theorem returnFromException_fault (s : State) : (returnFromException s).fault = s.fault := by simp [returnFromException]
@[simp] theorem returnFromException_busAttached (s : State) : (returnFromException s).busAttached = s.busAttached := by simp [returnFromException]

/-! ### The bus: reads leave memory alone, and nothing changes the address decode -/

@[simp] theorem memRead_bus_mem (s : State) (addr : Word) : (memRead s addr).state.bus.mem = s.bus.mem := by simp [memRead]
@[simp] theorem memRead_bus_map (s : State) (addr : Word) : (memRead s addr).state.bus.map = s.bus.map := by simp [memRead]
@[simp] theorem memRead_bus_openBus (s : State) (addr : Word) : (memRead s addr).state.bus.openBus = s.bus.openBus := by simp [memRead]
@[simp] theorem memRead_bus_romWritten (s : State) (addr : Word) : (memRead s addr).state.bus.romWritten = s.bus.romWritten := by simp [memRead]
@[simp] theorem memRead_bus_apart (s : State) (addr : Word) (a e : Word) : (memRead s addr).state.bus.Apart a e ↔ s.bus.Apart a e :=
  Bus.apart_congr (by simp) a e
@[simp] theorem memRead_bus_peek (s : State) (addr : Word) (a : Word) : (memRead s addr).state.bus.peek a = s.bus.peek a := by
  simp [Bus.peek, Bus.place]

@[simp] theorem fetchByte_bus_mem (s : State) : (fetchByte s).state.bus.mem = s.bus.mem := by simp [fetchByte]
@[simp] theorem fetchByte_bus_map (s : State) : (fetchByte s).state.bus.map = s.bus.map := by simp [fetchByte]
@[simp] theorem fetchByte_bus_openBus (s : State) : (fetchByte s).state.bus.openBus = s.bus.openBus := by simp [fetchByte]
@[simp] theorem fetchByte_bus_romWritten (s : State) : (fetchByte s).state.bus.romWritten = s.bus.romWritten := by simp [fetchByte]
@[simp] theorem fetchByte_bus_apart (s : State) (a e : Word) : (fetchByte s).state.bus.Apart a e ↔ s.bus.Apart a e :=
  Bus.apart_congr (by simp) a e
@[simp] theorem fetchByte_bus_peek (s : State) (a : Word) : (fetchByte s).state.bus.peek a = s.bus.peek a := by
  simp [Bus.peek, Bus.place]

@[simp] theorem pull_bus_mem (s : State) : (pull s).state.bus.mem = s.bus.mem := by simp [pull]
@[simp] theorem pull_bus_map (s : State) : (pull s).state.bus.map = s.bus.map := by simp [pull]
@[simp] theorem pull_bus_openBus (s : State) : (pull s).state.bus.openBus = s.bus.openBus := by simp [pull]
@[simp] theorem pull_bus_romWritten (s : State) : (pull s).state.bus.romWritten = s.bus.romWritten := by simp [pull]
@[simp] theorem pull_bus_apart (s : State) (a e : Word) : (pull s).state.bus.Apart a e ↔ s.bus.Apart a e :=
  Bus.apart_congr (by simp) a e
@[simp] theorem pull_bus_peek (s : State) (a : Word) : (pull s).state.bus.peek a = s.bus.peek a := by
  simp [Bus.peek, Bus.place]

@[simp] theorem pullWord_bus_mem (s : State) : (pullWord s).state.bus.mem = s.bus.mem := by simp [pullWord]
@[simp] theorem pullWord_bus_map (s : State) : (pullWord s).state.bus.map = s.bus.map := by simp [pullWord]
@[simp] theorem pullWord_bus_openBus (s : State) : (pullWord s).state.bus.openBus = s.bus.openBus := by simp [pullWord]
@[simp] theorem pullWord_bus_romWritten (s : State) : (pullWord s).state.bus.romWritten = s.bus.romWritten := by simp [pullWord]
@[simp] theorem pullWord_bus_apart (s : State) (a e : Word) : (pullWord s).state.bus.Apart a e ↔ s.bus.Apart a e :=
  Bus.apart_congr (by simp) a e
@[simp] theorem pullWord_bus_peek (s : State) (a : Word) : (pullWord s).state.bus.peek a = s.bus.peek a := by
  simp [Bus.peek, Bus.place]

@[simp] theorem readWord_bus_mem (s : State) (lo hi : Word) : (readWord s lo hi).state.bus.mem = s.bus.mem := by simp [readWord]
@[simp] theorem readWord_bus_map (s : State) (lo hi : Word) : (readWord s lo hi).state.bus.map = s.bus.map := by simp [readWord]
@[simp] theorem readWord_bus_openBus (s : State) (lo hi : Word) : (readWord s lo hi).state.bus.openBus = s.bus.openBus := by simp [readWord]
@[simp] theorem readWord_bus_romWritten (s : State) (lo hi : Word) : (readWord s lo hi).state.bus.romWritten = s.bus.romWritten := by simp [readWord]
@[simp] theorem readWord_bus_apart (s : State) (lo hi : Word) (a e : Word) : (readWord s lo hi).state.bus.Apart a e ↔ s.bus.Apart a e :=
  Bus.apart_congr (by simp) a e
@[simp] theorem readWord_bus_peek (s : State) (lo hi : Word) (a : Word) : (readWord s lo hi).state.bus.peek a = s.bus.peek a := by
  simp [Bus.peek, Bus.place]

@[simp] theorem resolve_bus_mem (m : MemMode) (s : State) : (resolve m s).state.bus.mem = s.bus.mem := by
  cases m <;> simp [resolve, indexed]
@[simp] theorem resolve_bus_map (m : MemMode) (s : State) : (resolve m s).state.bus.map = s.bus.map := by
  cases m <;> simp [resolve, indexed]
@[simp] theorem resolve_bus_openBus (m : MemMode) (s : State) : (resolve m s).state.bus.openBus = s.bus.openBus := by
  cases m <;> simp [resolve, indexed]
@[simp] theorem resolve_bus_romWritten (m : MemMode) (s : State) : (resolve m s).state.bus.romWritten = s.bus.romWritten := by
  cases m <;> simp [resolve, indexed]
@[simp] theorem resolve_bus_apart (m : MemMode) (s : State) (a e : Word) : (resolve m s).state.bus.Apart a e ↔ s.bus.Apart a e :=
  Bus.apart_congr (by simp) a e
@[simp] theorem resolve_bus_peek (m : MemMode) (s : State) (a : Word) : (resolve m s).state.bus.peek a = s.bus.peek a := by
  simp [Bus.peek, Bus.place]

@[simp] theorem readOperand_bus_mem (o : Operand) (s : State) : (readOperand o s).state.bus.mem = s.bus.mem := by
  cases o <;> simp [readOperand]
@[simp] theorem readOperand_bus_map (o : Operand) (s : State) : (readOperand o s).state.bus.map = s.bus.map := by
  cases o <;> simp [readOperand]
@[simp] theorem readOperand_bus_openBus (o : Operand) (s : State) : (readOperand o s).state.bus.openBus = s.bus.openBus := by
  cases o <;> simp [readOperand]
@[simp] theorem readOperand_bus_romWritten (o : Operand) (s : State) : (readOperand o s).state.bus.romWritten = s.bus.romWritten := by
  cases o <;> simp [readOperand]
@[simp] theorem readOperand_bus_apart (o : Operand) (s : State) (a e : Word) : (readOperand o s).state.bus.Apart a e ↔ s.bus.Apart a e :=
  Bus.apart_congr (by simp) a e
@[simp] theorem readOperand_bus_peek (o : Operand) (s : State) (a : Word) : (readOperand o s).state.bus.peek a = s.bus.peek a := by
  simp [Bus.peek, Bus.place]

@[simp] theorem returnFromException_bus_mem (s : State) : (returnFromException s).bus.mem = s.bus.mem := by simp [returnFromException]
@[simp] theorem returnFromException_bus_map (s : State) : (returnFromException s).bus.map = s.bus.map := by simp [returnFromException]
@[simp] theorem returnFromException_bus_openBus (s : State) : (returnFromException s).bus.openBus = s.bus.openBus := by simp [returnFromException]
@[simp] theorem returnFromException_bus_romWritten (s : State) : (returnFromException s).bus.romWritten = s.bus.romWritten := by simp [returnFromException]
@[simp] theorem returnFromException_bus_apart (s : State) (a e : Word) : (returnFromException s).bus.Apart a e ↔ s.bus.Apart a e :=
  Bus.apart_congr (by simp) a e
@[simp] theorem returnFromException_bus_peek (s : State) (a : Word) : (returnFromException s).bus.peek a = s.bus.peek a := by
  simp [Bus.peek, Bus.place]

@[simp] theorem memWrite_bus_map (s : State) (addr : Word) (v : Byte) : (memWrite s addr v).state.bus.map = s.bus.map := by simp [memWrite]
@[simp] theorem memWrite_bus_openBus (s : State) (addr : Word) (v : Byte) : (memWrite s addr v).state.bus.openBus = s.bus.openBus := by simp [memWrite]
@[simp] theorem memWrite_bus_apart (s : State) (addr : Word) (v : Byte) (a e : Word) : (memWrite s addr v).state.bus.Apart a e ↔ s.bus.Apart a e :=
  Bus.apart_congr (by simp) a e

@[simp] theorem push_bus_map (s : State) (v : Byte) : (push s v).state.bus.map = s.bus.map := by simp [push]
@[simp] theorem push_bus_openBus (s : State) (v : Byte) : (push s v).state.bus.openBus = s.bus.openBus := by simp [push]
@[simp] theorem push_bus_apart (s : State) (v : Byte) (a e : Word) : (push s v).state.bus.Apart a e ↔ s.bus.Apart a e :=
  Bus.apart_congr (by simp) a e

@[simp] theorem pushWord_bus_map (s : State) (v : Word) : (pushWord s v).state.bus.map = s.bus.map := by simp [pushWord]
@[simp] theorem pushWord_bus_openBus (s : State) (v : Word) : (pushWord s v).state.bus.openBus = s.bus.openBus := by simp [pushWord]
@[simp] theorem pushWord_bus_apart (s : State) (v : Word) (a e : Word) : (pushWord s v).state.bus.Apart a e ↔ s.bus.Apart a e :=
  Bus.apart_congr (by simp) a e

@[simp] theorem takeException_bus_map (b : Bool) (v : Word) (s : State) : (takeException b v s).state.bus.map = s.bus.map := by simp [takeException]
@[simp] theorem takeException_bus_openBus (b : Bool) (v : Word) (s : State) : (takeException b v s).state.bus.openBus = s.bus.openBus := by simp [takeException]
@[simp] theorem takeException_bus_apart (b : Bool) (v : Word) (s : State) (a e : Word) : (takeException b v s).state.bus.Apart a e ↔ s.bus.Apart a e :=
  Bus.apart_congr (by simp) a e

/-! ### Writes keep the canonical form of memory -/

theorem memWrite_wf (s : State) (addr : Word) (v : Byte) (h : s.bus.mem.wf = true) :
    (memWrite s addr v).state.bus.mem.wf = true := Bus.write_wf _ _ _ _ h

theorem push_wf (s : State) (v : Byte) (h : s.bus.mem.wf = true) : (push s v).state.bus.mem.wf = true :=
  memWrite_wf s _ v h

theorem pushWord_wf (s : State) (v : Word) (h : s.bus.mem.wf = true) : (pushWord s v).state.bus.mem.wf = true :=
  push_wf _ _ (push_wf s _ h)

theorem takeException_wf (b : Bool) (v : Word) (s : State) (h : s.bus.mem.wf = true) :
    (takeException b v s).state.bus.mem.wf = true := by
  simpa [takeException] using push_wf _ _ (pushWord_wf s s.pc h)

/-! ### Writes leave every byte of another cell alone -/

theorem memWrite_peek_apart (s : State) (addr a : Word) (v : Byte) (h : s.bus.Apart a addr) :
    (memWrite s addr v).state.bus.peek a = s.bus.peek a := Bus.peek_write_apart _ _ _ _ _ h

theorem push_peek_apart (s : State) (v : Byte) (a : Word) (h : s.bus.Apart a (stackAddr s.sp)) :
    (push s v).state.bus.peek a = s.bus.peek a := memWrite_peek_apart s _ a v h

@[simp] theorem memWrite_bus_cell (s : State) (addr : Word) (v : Byte) (a : Word) :
    (memWrite s addr v).state.bus.cell a = s.bus.cell a := by simp [memWrite]

@[simp] theorem push_bus_cell (s : State) (v : Byte) (a : Word) : (push s v).state.bus.cell a = s.bus.cell a := by
  simp [push]

/-! ### The end of an instruction -/

/-- `finish` always answers a next state: the cycles are added, and the next boundary samples I. -/
theorem finish_eq (s : State) (n : Nat) : finish s n = .next ((s.addCycles n).setIPoll s.p.i) := rfl

/-- `finishWith` always answers a next state. -/
theorem finishWith_eq (poll : Bool) (s : State) (n : Nat) :
    finishWith poll s n = .next ((s.addCycles n).setIPoll poll) := rfl

/-! ### 16-bit values and their bytes -/

theorem cat16_toNat (hi lo : Byte) : (cat16 hi lo).toNat = hi.toNat * 256 + lo.toNat := by
  have := lo.isLt
  rw [cat16, BitVec.toNat_append, Nat.shiftLeft_eq, Nat.mul_comm hi.toNat]
  exact (Nat.two_pow_add_eq_or_of_lt (i := 8) (by omega) hi.toNat).symm.trans (by omega)

theorem lo8_toNat (v : Word) : (lo8 v).toNat = v.toNat % 256 := by simp [lo8]

theorem hi8_toNat (v : Word) : (hi8 v).toNat = v.toNat / 256 := by
  have := v.isLt
  simp only [hi8, BitVec.toNat_setWidth, BitVec.toNat_ushiftRight, Nat.shiftRight_eq_div_pow]
  omega

@[simp] theorem cat16_hi8_lo8 (v : Word) : cat16 (hi8 v) (lo8 v) = v := by
  apply BitVec.eq_of_toNat_eq
  rw [cat16_toNat, hi8_toNat, lo8_toNat]
  omega

@[simp] theorem lo8_cat16 (hi lo : Byte) : lo8 (cat16 hi lo) = lo := by
  apply BitVec.eq_of_toNat_eq
  have := lo.isLt
  rw [lo8_toNat, cat16_toNat]
  omega

@[simp] theorem hi8_cat16 (hi lo : Byte) : hi8 (cat16 hi lo) = hi := by
  apply BitVec.eq_of_toNat_eq
  have := lo.isLt
  rw [hi8_toNat, cat16_toNat]
  omega

theorem zext16_toNat (b : Byte) : (zext16 b).toNat = b.toNat := by
  have := b.isLt
  simp only [zext16, BitVec.toNat_setWidth]
  omega

/-- `Unpack` after `Pack` gives the flags back, whatever the Break bit was (R55, R56). -/
theorem unpack_pack (b : Bool) (p : Flags) : unpack (pack b p) p = p := by
  obtain ⟨n, v, b', d, i, z, c⟩ := p
  revert n v b' d i z c b; decide

end Sys2Proof.Machine
end

