-- ==== Sys2Proof/Laws/PerInstr.lean ====
section
/-! SUPPORT. Facts about every instruction as syntax, one lemma a constructor. The family BuiltByRow: the decoder's entry
for the opcode of an instruction builds that instruction from its operand bytes. -/

namespace Sys2Proof.Laws

open Sys2Proof.Machine

/-- An opcode value R163 lists has no documented row. -/
theorem rowOf_unimplemented : ∀ op : Byte, isUnimplemented op = true → rowOf op = none := by decide +kernel

/-- The entry of an opcode takes as many operand bytes as the encoder gives the instruction, and builds the instruction
from them (30_encoding.md R140, R162, R164). -/
def BuiltByRow.Statement (i : Instr) : Prop :=
  i.wellFormed = true →
    match i.operands with
    | [] => buildOf i.opcode = .plain i
    | [b] => ∃ f, buildOf i.opcode = .byte f ∧ f b = i
    | [lo, hi] => ∃ f, buildOf i.opcode = .word f ∧ f (cat16 hi lo) = i
    | _ => False


theorem BuiltByRow.ldaImm (v : Byte) : BuiltByRow.Statement (.ldaImm v) := fun _ => ⟨_, rfl, rfl⟩
theorem BuiltByRow.ldaZp (a : Byte) : BuiltByRow.Statement (.ldaZp a) := fun _ => ⟨_, rfl, rfl⟩
theorem BuiltByRow.ldaZpx (a : Byte) : BuiltByRow.Statement (.ldaZpx a) := fun _ => ⟨_, rfl, rfl⟩
theorem BuiltByRow.ldaAbs (a : Word) : BuiltByRow.Statement (.ldaAbs a) := 
  fun _ => ⟨Instr.ldaAbs, rfl, congrArg _ (cat16_hi8_lo8 a)⟩
theorem BuiltByRow.ldaAbsx (a : Word) : BuiltByRow.Statement (.ldaAbsx a) := 
  fun _ => ⟨Instr.ldaAbsx, rfl, congrArg _ (cat16_hi8_lo8 a)⟩
theorem BuiltByRow.ldaAbsy (a : Word) : BuiltByRow.Statement (.ldaAbsy a) := 
  fun _ => ⟨Instr.ldaAbsy, rfl, congrArg _ (cat16_hi8_lo8 a)⟩
theorem BuiltByRow.ldaIndx (z : Byte) : BuiltByRow.Statement (.ldaIndx z) := fun _ => ⟨_, rfl, rfl⟩
theorem BuiltByRow.ldaIndy (z : Byte) : BuiltByRow.Statement (.ldaIndy z) := fun _ => ⟨_, rfl, rfl⟩
theorem BuiltByRow.ldxImm (v : Byte) : BuiltByRow.Statement (.ldxImm v) := fun _ => ⟨_, rfl, rfl⟩
theorem BuiltByRow.ldxZp (a : Byte) : BuiltByRow.Statement (.ldxZp a) := fun _ => ⟨_, rfl, rfl⟩
theorem BuiltByRow.ldxZpy (a : Byte) : BuiltByRow.Statement (.ldxZpy a) := fun _ => ⟨_, rfl, rfl⟩
theorem BuiltByRow.ldxAbs (a : Word) : BuiltByRow.Statement (.ldxAbs a) := 
  fun _ => ⟨Instr.ldxAbs, rfl, congrArg _ (cat16_hi8_lo8 a)⟩
theorem BuiltByRow.ldxAbsy (a : Word) : BuiltByRow.Statement (.ldxAbsy a) := 
  fun _ => ⟨Instr.ldxAbsy, rfl, congrArg _ (cat16_hi8_lo8 a)⟩
theorem BuiltByRow.ldyImm (v : Byte) : BuiltByRow.Statement (.ldyImm v) := fun _ => ⟨_, rfl, rfl⟩
theorem BuiltByRow.ldyZp (a : Byte) : BuiltByRow.Statement (.ldyZp a) := fun _ => ⟨_, rfl, rfl⟩
theorem BuiltByRow.ldyZpx (a : Byte) : BuiltByRow.Statement (.ldyZpx a) := fun _ => ⟨_, rfl, rfl⟩
theorem BuiltByRow.ldyAbs (a : Word) : BuiltByRow.Statement (.ldyAbs a) := 
  fun _ => ⟨Instr.ldyAbs, rfl, congrArg _ (cat16_hi8_lo8 a)⟩
theorem BuiltByRow.ldyAbsx (a : Word) : BuiltByRow.Statement (.ldyAbsx a) := 
  fun _ => ⟨Instr.ldyAbsx, rfl, congrArg _ (cat16_hi8_lo8 a)⟩
theorem BuiltByRow.staZp (a : Byte) : BuiltByRow.Statement (.staZp a) := fun _ => ⟨_, rfl, rfl⟩
theorem BuiltByRow.staZpx (a : Byte) : BuiltByRow.Statement (.staZpx a) := fun _ => ⟨_, rfl, rfl⟩
theorem BuiltByRow.staAbs (a : Word) : BuiltByRow.Statement (.staAbs a) := 
  fun _ => ⟨Instr.staAbs, rfl, congrArg _ (cat16_hi8_lo8 a)⟩
theorem BuiltByRow.staAbsx (a : Word) : BuiltByRow.Statement (.staAbsx a) := 
  fun _ => ⟨Instr.staAbsx, rfl, congrArg _ (cat16_hi8_lo8 a)⟩
theorem BuiltByRow.staAbsy (a : Word) : BuiltByRow.Statement (.staAbsy a) := 
  fun _ => ⟨Instr.staAbsy, rfl, congrArg _ (cat16_hi8_lo8 a)⟩
theorem BuiltByRow.staIndx (z : Byte) : BuiltByRow.Statement (.staIndx z) := fun _ => ⟨_, rfl, rfl⟩
theorem BuiltByRow.staIndy (z : Byte) : BuiltByRow.Statement (.staIndy z) := fun _ => ⟨_, rfl, rfl⟩
theorem BuiltByRow.stxZp (a : Byte) : BuiltByRow.Statement (.stxZp a) := fun _ => ⟨_, rfl, rfl⟩
theorem BuiltByRow.stxZpy (a : Byte) : BuiltByRow.Statement (.stxZpy a) := fun _ => ⟨_, rfl, rfl⟩
theorem BuiltByRow.stxAbs (a : Word) : BuiltByRow.Statement (.stxAbs a) := 
  fun _ => ⟨Instr.stxAbs, rfl, congrArg _ (cat16_hi8_lo8 a)⟩
theorem BuiltByRow.styZp (a : Byte) : BuiltByRow.Statement (.styZp a) := fun _ => ⟨_, rfl, rfl⟩
theorem BuiltByRow.styZpx (a : Byte) : BuiltByRow.Statement (.styZpx a) := fun _ => ⟨_, rfl, rfl⟩
theorem BuiltByRow.styAbs (a : Word) : BuiltByRow.Statement (.styAbs a) := 
  fun _ => ⟨Instr.styAbs, rfl, congrArg _ (cat16_hi8_lo8 a)⟩
theorem BuiltByRow.tax : BuiltByRow.Statement (.tax) := fun _ => rfl
theorem BuiltByRow.tay : BuiltByRow.Statement (.tay) := fun _ => rfl
theorem BuiltByRow.tsx : BuiltByRow.Statement (.tsx) := fun _ => rfl
theorem BuiltByRow.txa : BuiltByRow.Statement (.txa) := fun _ => rfl
theorem BuiltByRow.txs : BuiltByRow.Statement (.txs) := fun _ => rfl
theorem BuiltByRow.tya : BuiltByRow.Statement (.tya) := fun _ => rfl
theorem BuiltByRow.adcImm (v : Byte) : BuiltByRow.Statement (.adcImm v) := fun _ => ⟨_, rfl, rfl⟩
theorem BuiltByRow.adcZp (a : Byte) : BuiltByRow.Statement (.adcZp a) := fun _ => ⟨_, rfl, rfl⟩
theorem BuiltByRow.adcZpx (a : Byte) : BuiltByRow.Statement (.adcZpx a) := fun _ => ⟨_, rfl, rfl⟩
theorem BuiltByRow.adcAbs (a : Word) : BuiltByRow.Statement (.adcAbs a) := 
  fun _ => ⟨Instr.adcAbs, rfl, congrArg _ (cat16_hi8_lo8 a)⟩
theorem BuiltByRow.adcAbsx (a : Word) : BuiltByRow.Statement (.adcAbsx a) := 
  fun _ => ⟨Instr.adcAbsx, rfl, congrArg _ (cat16_hi8_lo8 a)⟩
theorem BuiltByRow.adcAbsy (a : Word) : BuiltByRow.Statement (.adcAbsy a) := 
  fun _ => ⟨Instr.adcAbsy, rfl, congrArg _ (cat16_hi8_lo8 a)⟩
theorem BuiltByRow.adcIndx (z : Byte) : BuiltByRow.Statement (.adcIndx z) := fun _ => ⟨_, rfl, rfl⟩
theorem BuiltByRow.adcIndy (z : Byte) : BuiltByRow.Statement (.adcIndy z) := fun _ => ⟨_, rfl, rfl⟩
theorem BuiltByRow.sbcImm (v : Byte) : BuiltByRow.Statement (.sbcImm v) := fun _ => ⟨_, rfl, rfl⟩
theorem BuiltByRow.sbcZp (a : Byte) : BuiltByRow.Statement (.sbcZp a) := fun _ => ⟨_, rfl, rfl⟩
theorem BuiltByRow.sbcZpx (a : Byte) : BuiltByRow.Statement (.sbcZpx a) := fun _ => ⟨_, rfl, rfl⟩
theorem BuiltByRow.sbcAbs (a : Word) : BuiltByRow.Statement (.sbcAbs a) := 
  fun _ => ⟨Instr.sbcAbs, rfl, congrArg _ (cat16_hi8_lo8 a)⟩
theorem BuiltByRow.sbcAbsx (a : Word) : BuiltByRow.Statement (.sbcAbsx a) := 
  fun _ => ⟨Instr.sbcAbsx, rfl, congrArg _ (cat16_hi8_lo8 a)⟩
theorem BuiltByRow.sbcAbsy (a : Word) : BuiltByRow.Statement (.sbcAbsy a) := 
  fun _ => ⟨Instr.sbcAbsy, rfl, congrArg _ (cat16_hi8_lo8 a)⟩
theorem BuiltByRow.sbcIndx (z : Byte) : BuiltByRow.Statement (.sbcIndx z) := fun _ => ⟨_, rfl, rfl⟩
theorem BuiltByRow.sbcIndy (z : Byte) : BuiltByRow.Statement (.sbcIndy z) := fun _ => ⟨_, rfl, rfl⟩
theorem BuiltByRow.andImm (v : Byte) : BuiltByRow.Statement (.andImm v) := fun _ => ⟨_, rfl, rfl⟩
theorem BuiltByRow.andZp (a : Byte) : BuiltByRow.Statement (.andZp a) := fun _ => ⟨_, rfl, rfl⟩
theorem BuiltByRow.andZpx (a : Byte) : BuiltByRow.Statement (.andZpx a) := fun _ => ⟨_, rfl, rfl⟩
theorem BuiltByRow.andAbs (a : Word) : BuiltByRow.Statement (.andAbs a) := 
  fun _ => ⟨Instr.andAbs, rfl, congrArg _ (cat16_hi8_lo8 a)⟩
theorem BuiltByRow.andAbsx (a : Word) : BuiltByRow.Statement (.andAbsx a) := 
  fun _ => ⟨Instr.andAbsx, rfl, congrArg _ (cat16_hi8_lo8 a)⟩
theorem BuiltByRow.andAbsy (a : Word) : BuiltByRow.Statement (.andAbsy a) := 
  fun _ => ⟨Instr.andAbsy, rfl, congrArg _ (cat16_hi8_lo8 a)⟩
theorem BuiltByRow.andIndx (z : Byte) : BuiltByRow.Statement (.andIndx z) := fun _ => ⟨_, rfl, rfl⟩
theorem BuiltByRow.andIndy (z : Byte) : BuiltByRow.Statement (.andIndy z) := fun _ => ⟨_, rfl, rfl⟩
theorem BuiltByRow.oraImm (v : Byte) : BuiltByRow.Statement (.oraImm v) := fun _ => ⟨_, rfl, rfl⟩
theorem BuiltByRow.oraZp (a : Byte) : BuiltByRow.Statement (.oraZp a) := fun _ => ⟨_, rfl, rfl⟩
theorem BuiltByRow.oraZpx (a : Byte) : BuiltByRow.Statement (.oraZpx a) := fun _ => ⟨_, rfl, rfl⟩
theorem BuiltByRow.oraAbs (a : Word) : BuiltByRow.Statement (.oraAbs a) := 
  fun _ => ⟨Instr.oraAbs, rfl, congrArg _ (cat16_hi8_lo8 a)⟩
theorem BuiltByRow.oraAbsx (a : Word) : BuiltByRow.Statement (.oraAbsx a) := 
  fun _ => ⟨Instr.oraAbsx, rfl, congrArg _ (cat16_hi8_lo8 a)⟩
theorem BuiltByRow.oraAbsy (a : Word) : BuiltByRow.Statement (.oraAbsy a) := 
  fun _ => ⟨Instr.oraAbsy, rfl, congrArg _ (cat16_hi8_lo8 a)⟩
theorem BuiltByRow.oraIndx (z : Byte) : BuiltByRow.Statement (.oraIndx z) := fun _ => ⟨_, rfl, rfl⟩
theorem BuiltByRow.oraIndy (z : Byte) : BuiltByRow.Statement (.oraIndy z) := fun _ => ⟨_, rfl, rfl⟩
theorem BuiltByRow.eorImm (v : Byte) : BuiltByRow.Statement (.eorImm v) := fun _ => ⟨_, rfl, rfl⟩
theorem BuiltByRow.eorZp (a : Byte) : BuiltByRow.Statement (.eorZp a) := fun _ => ⟨_, rfl, rfl⟩
theorem BuiltByRow.eorZpx (a : Byte) : BuiltByRow.Statement (.eorZpx a) := fun _ => ⟨_, rfl, rfl⟩
theorem BuiltByRow.eorAbs (a : Word) : BuiltByRow.Statement (.eorAbs a) := 
  fun _ => ⟨Instr.eorAbs, rfl, congrArg _ (cat16_hi8_lo8 a)⟩
theorem BuiltByRow.eorAbsx (a : Word) : BuiltByRow.Statement (.eorAbsx a) := 
  fun _ => ⟨Instr.eorAbsx, rfl, congrArg _ (cat16_hi8_lo8 a)⟩
theorem BuiltByRow.eorAbsy (a : Word) : BuiltByRow.Statement (.eorAbsy a) := 
  fun _ => ⟨Instr.eorAbsy, rfl, congrArg _ (cat16_hi8_lo8 a)⟩
theorem BuiltByRow.eorIndx (z : Byte) : BuiltByRow.Statement (.eorIndx z) := fun _ => ⟨_, rfl, rfl⟩
theorem BuiltByRow.eorIndy (z : Byte) : BuiltByRow.Statement (.eorIndy z) := fun _ => ⟨_, rfl, rfl⟩
theorem BuiltByRow.bitZp (a : Byte) : BuiltByRow.Statement (.bitZp a) := fun _ => ⟨_, rfl, rfl⟩
theorem BuiltByRow.bitAbs (a : Word) : BuiltByRow.Statement (.bitAbs a) := 
  fun _ => ⟨Instr.bitAbs, rfl, congrArg _ (cat16_hi8_lo8 a)⟩
theorem BuiltByRow.cmpImm (v : Byte) : BuiltByRow.Statement (.cmpImm v) := fun _ => ⟨_, rfl, rfl⟩
theorem BuiltByRow.cmpZp (a : Byte) : BuiltByRow.Statement (.cmpZp a) := fun _ => ⟨_, rfl, rfl⟩
theorem BuiltByRow.cmpZpx (a : Byte) : BuiltByRow.Statement (.cmpZpx a) := fun _ => ⟨_, rfl, rfl⟩
theorem BuiltByRow.cmpAbs (a : Word) : BuiltByRow.Statement (.cmpAbs a) := 
  fun _ => ⟨Instr.cmpAbs, rfl, congrArg _ (cat16_hi8_lo8 a)⟩
theorem BuiltByRow.cmpAbsx (a : Word) : BuiltByRow.Statement (.cmpAbsx a) := 
  fun _ => ⟨Instr.cmpAbsx, rfl, congrArg _ (cat16_hi8_lo8 a)⟩
theorem BuiltByRow.cmpAbsy (a : Word) : BuiltByRow.Statement (.cmpAbsy a) := 
  fun _ => ⟨Instr.cmpAbsy, rfl, congrArg _ (cat16_hi8_lo8 a)⟩
theorem BuiltByRow.cmpIndx (z : Byte) : BuiltByRow.Statement (.cmpIndx z) := fun _ => ⟨_, rfl, rfl⟩
theorem BuiltByRow.cmpIndy (z : Byte) : BuiltByRow.Statement (.cmpIndy z) := fun _ => ⟨_, rfl, rfl⟩
theorem BuiltByRow.cpxImm (v : Byte) : BuiltByRow.Statement (.cpxImm v) := fun _ => ⟨_, rfl, rfl⟩
theorem BuiltByRow.cpxZp (a : Byte) : BuiltByRow.Statement (.cpxZp a) := fun _ => ⟨_, rfl, rfl⟩
theorem BuiltByRow.cpxAbs (a : Word) : BuiltByRow.Statement (.cpxAbs a) := 
  fun _ => ⟨Instr.cpxAbs, rfl, congrArg _ (cat16_hi8_lo8 a)⟩
theorem BuiltByRow.cpyImm (v : Byte) : BuiltByRow.Statement (.cpyImm v) := fun _ => ⟨_, rfl, rfl⟩
theorem BuiltByRow.cpyZp (a : Byte) : BuiltByRow.Statement (.cpyZp a) := fun _ => ⟨_, rfl, rfl⟩
theorem BuiltByRow.cpyAbs (a : Word) : BuiltByRow.Statement (.cpyAbs a) := 
  fun _ => ⟨Instr.cpyAbs, rfl, congrArg _ (cat16_hi8_lo8 a)⟩
theorem BuiltByRow.incZp (a : Byte) : BuiltByRow.Statement (.incZp a) := fun _ => ⟨_, rfl, rfl⟩
theorem BuiltByRow.incZpx (a : Byte) : BuiltByRow.Statement (.incZpx a) := fun _ => ⟨_, rfl, rfl⟩
theorem BuiltByRow.incAbs (a : Word) : BuiltByRow.Statement (.incAbs a) := 
  fun _ => ⟨Instr.incAbs, rfl, congrArg _ (cat16_hi8_lo8 a)⟩
theorem BuiltByRow.incAbsx (a : Word) : BuiltByRow.Statement (.incAbsx a) := 
  fun _ => ⟨Instr.incAbsx, rfl, congrArg _ (cat16_hi8_lo8 a)⟩
theorem BuiltByRow.decZp (a : Byte) : BuiltByRow.Statement (.decZp a) := fun _ => ⟨_, rfl, rfl⟩
theorem BuiltByRow.decZpx (a : Byte) : BuiltByRow.Statement (.decZpx a) := fun _ => ⟨_, rfl, rfl⟩
theorem BuiltByRow.decAbs (a : Word) : BuiltByRow.Statement (.decAbs a) := 
  fun _ => ⟨Instr.decAbs, rfl, congrArg _ (cat16_hi8_lo8 a)⟩
theorem BuiltByRow.decAbsx (a : Word) : BuiltByRow.Statement (.decAbsx a) := 
  fun _ => ⟨Instr.decAbsx, rfl, congrArg _ (cat16_hi8_lo8 a)⟩
theorem BuiltByRow.inx : BuiltByRow.Statement (.inx) := fun _ => rfl
theorem BuiltByRow.iny : BuiltByRow.Statement (.iny) := fun _ => rfl
theorem BuiltByRow.dex : BuiltByRow.Statement (.dex) := fun _ => rfl
theorem BuiltByRow.dey : BuiltByRow.Statement (.dey) := fun _ => rfl
theorem BuiltByRow.aslAcc : BuiltByRow.Statement (.aslAcc) := fun _ => rfl
theorem BuiltByRow.aslZp (a : Byte) : BuiltByRow.Statement (.aslZp a) := fun _ => ⟨_, rfl, rfl⟩
theorem BuiltByRow.aslZpx (a : Byte) : BuiltByRow.Statement (.aslZpx a) := fun _ => ⟨_, rfl, rfl⟩
theorem BuiltByRow.aslAbs (a : Word) : BuiltByRow.Statement (.aslAbs a) := 
  fun _ => ⟨Instr.aslAbs, rfl, congrArg _ (cat16_hi8_lo8 a)⟩
theorem BuiltByRow.aslAbsx (a : Word) : BuiltByRow.Statement (.aslAbsx a) := 
  fun _ => ⟨Instr.aslAbsx, rfl, congrArg _ (cat16_hi8_lo8 a)⟩
theorem BuiltByRow.lsrAcc : BuiltByRow.Statement (.lsrAcc) := fun _ => rfl
theorem BuiltByRow.lsrZp (a : Byte) : BuiltByRow.Statement (.lsrZp a) := fun _ => ⟨_, rfl, rfl⟩
theorem BuiltByRow.lsrZpx (a : Byte) : BuiltByRow.Statement (.lsrZpx a) := fun _ => ⟨_, rfl, rfl⟩
theorem BuiltByRow.lsrAbs (a : Word) : BuiltByRow.Statement (.lsrAbs a) := 
  fun _ => ⟨Instr.lsrAbs, rfl, congrArg _ (cat16_hi8_lo8 a)⟩
theorem BuiltByRow.lsrAbsx (a : Word) : BuiltByRow.Statement (.lsrAbsx a) := 
  fun _ => ⟨Instr.lsrAbsx, rfl, congrArg _ (cat16_hi8_lo8 a)⟩
theorem BuiltByRow.rolAcc : BuiltByRow.Statement (.rolAcc) := fun _ => rfl
theorem BuiltByRow.rolZp (a : Byte) : BuiltByRow.Statement (.rolZp a) := fun _ => ⟨_, rfl, rfl⟩
theorem BuiltByRow.rolZpx (a : Byte) : BuiltByRow.Statement (.rolZpx a) := fun _ => ⟨_, rfl, rfl⟩
theorem BuiltByRow.rolAbs (a : Word) : BuiltByRow.Statement (.rolAbs a) := 
  fun _ => ⟨Instr.rolAbs, rfl, congrArg _ (cat16_hi8_lo8 a)⟩
theorem BuiltByRow.rolAbsx (a : Word) : BuiltByRow.Statement (.rolAbsx a) := 
  fun _ => ⟨Instr.rolAbsx, rfl, congrArg _ (cat16_hi8_lo8 a)⟩
theorem BuiltByRow.rorAcc : BuiltByRow.Statement (.rorAcc) := fun _ => rfl
theorem BuiltByRow.rorZp (a : Byte) : BuiltByRow.Statement (.rorZp a) := fun _ => ⟨_, rfl, rfl⟩
theorem BuiltByRow.rorZpx (a : Byte) : BuiltByRow.Statement (.rorZpx a) := fun _ => ⟨_, rfl, rfl⟩
theorem BuiltByRow.rorAbs (a : Word) : BuiltByRow.Statement (.rorAbs a) := 
  fun _ => ⟨Instr.rorAbs, rfl, congrArg _ (cat16_hi8_lo8 a)⟩
theorem BuiltByRow.rorAbsx (a : Word) : BuiltByRow.Statement (.rorAbsx a) := 
  fun _ => ⟨Instr.rorAbsx, rfl, congrArg _ (cat16_hi8_lo8 a)⟩
theorem BuiltByRow.bcc (off : Byte) : BuiltByRow.Statement (.bcc off) := fun _ => ⟨_, rfl, rfl⟩
theorem BuiltByRow.bcs (off : Byte) : BuiltByRow.Statement (.bcs off) := fun _ => ⟨_, rfl, rfl⟩
theorem BuiltByRow.beq (off : Byte) : BuiltByRow.Statement (.beq off) := fun _ => ⟨_, rfl, rfl⟩
theorem BuiltByRow.bmi (off : Byte) : BuiltByRow.Statement (.bmi off) := fun _ => ⟨_, rfl, rfl⟩
theorem BuiltByRow.bne (off : Byte) : BuiltByRow.Statement (.bne off) := fun _ => ⟨_, rfl, rfl⟩
theorem BuiltByRow.bpl (off : Byte) : BuiltByRow.Statement (.bpl off) := fun _ => ⟨_, rfl, rfl⟩
theorem BuiltByRow.bvc (off : Byte) : BuiltByRow.Statement (.bvc off) := fun _ => ⟨_, rfl, rfl⟩
theorem BuiltByRow.bvs (off : Byte) : BuiltByRow.Statement (.bvs off) := fun _ => ⟨_, rfl, rfl⟩
theorem BuiltByRow.jmpAbs (a : Word) : BuiltByRow.Statement (.jmpAbs a) := 
  fun _ => ⟨Instr.jmpAbs, rfl, congrArg _ (cat16_hi8_lo8 a)⟩
theorem BuiltByRow.jmpInd (p : Word) : BuiltByRow.Statement (.jmpInd p) := 
  fun _ => ⟨Instr.jmpInd, rfl, congrArg _ (cat16_hi8_lo8 p)⟩
theorem BuiltByRow.jsr (lo : Byte) : BuiltByRow.Statement (.jsr lo) := fun _ => ⟨_, rfl, rfl⟩
theorem BuiltByRow.rts : BuiltByRow.Statement (.rts) := fun _ => rfl
theorem BuiltByRow.pha : BuiltByRow.Statement (.pha) := fun _ => rfl
theorem BuiltByRow.php : BuiltByRow.Statement (.php) := fun _ => rfl
theorem BuiltByRow.pla : BuiltByRow.Statement (.pla) := fun _ => rfl
theorem BuiltByRow.plp : BuiltByRow.Statement (.plp) := fun _ => rfl
theorem BuiltByRow.clc : BuiltByRow.Statement (.clc) := fun _ => rfl
theorem BuiltByRow.cld : BuiltByRow.Statement (.cld) := fun _ => rfl
theorem BuiltByRow.cli : BuiltByRow.Statement (.cli) := fun _ => rfl
theorem BuiltByRow.clv : BuiltByRow.Statement (.clv) := fun _ => rfl
theorem BuiltByRow.sec : BuiltByRow.Statement (.sec) := fun _ => rfl
theorem BuiltByRow.sed : BuiltByRow.Statement (.sed) := fun _ => rfl
theorem BuiltByRow.sei : BuiltByRow.Statement (.sei) := fun _ => rfl
theorem BuiltByRow.nop : BuiltByRow.Statement (.nop) := fun _ => rfl
theorem BuiltByRow.brk : BuiltByRow.Statement (.brk) := fun _ => rfl
theorem BuiltByRow.rti : BuiltByRow.Statement (.rti) := fun _ => rfl

theorem BuiltByRow.unimplemented (op : Byte) : BuiltByRow.Statement (.unimplemented op) := by
  intro h
  have h' : rowOf op = none := rowOf_unimplemented op h
  simp [Instr.opcode, Instr.operands, buildOf, h']

end Sys2Proof.Laws
end

