-- ==== Sys2Proof/Laws/Rows.lean ====
section
/-! SUPPORT. The Instruction Record of every constructor (30_encoding.md R162, R170), one lemma each, so that no later
proof searches the opcode table. -/

namespace Sys2Proof

open Sys2Proof.Machine

/-- In a list of rows with different opcodes, looking up the opcode of a row finds the row. -/
theorem findRow_of_mem {rows : List Row} (nodup : (rows.map Row.opcode).Nodup) {r : Row} (mem : r ∈ rows) :
    findRow rows r.opcode = some r := by
  induction rows with
  | nil => cases mem
  | cons q rest ih =>
    rw [List.map_cons, List.nodup_cons] at nodup
    rcases List.mem_cons.mp mem with rfl | h
    · simp [findRow]
    · have ne : q.opcode ≠ r.opcode := fun e => nodup.1 (e ▸ List.mem_map_of_mem h)
      simp [findRow, ne, ih nodup.2 h]

/-- The opcode values of the documented rows differ (R160). -/
theorem opcodeTable_nodup : (opcodeTable.map Row.opcode).Nodup := by decide +kernel

/-- The row of an instruction, from the place of the row in a part of the table. -/
theorem Instr.row_of_part {part : List Row} (k : Nat) {i : Instr} {r : Row} (sub : part ⊆ opcodeTable)
    (at_k : part[k]? = some r) (op : i.opcode.toNat = r.opcode) : i.row = some r := by
  rw [Instr.row, rowOf, op]
  exact findRow_of_mem opcodeTable_nodup (sub (List.mem_of_getElem? at_k))

theorem Instr.mnemonic_of_row {i : Instr} {r : Row} (h : i.row = some r) : i.mnemonic = r.mnemonic := by
  simp [Instr.mnemonic, h]


theorem opcodeRows0x_sub : opcodeRows0x ⊆ opcodeTable := fun r h => by simp [opcodeTable, h]
theorem opcodeRows1x_sub : opcodeRows1x ⊆ opcodeTable := fun r h => by simp [opcodeTable, h]
theorem opcodeRows2x_sub : opcodeRows2x ⊆ opcodeTable := fun r h => by simp [opcodeTable, h]
theorem opcodeRows3x_sub : opcodeRows3x ⊆ opcodeTable := fun r h => by simp [opcodeTable, h]
theorem opcodeRows4x_sub : opcodeRows4x ⊆ opcodeTable := fun r h => by simp [opcodeTable, h]
theorem opcodeRows5x_sub : opcodeRows5x ⊆ opcodeTable := fun r h => by simp [opcodeTable, h]
theorem opcodeRows6x_sub : opcodeRows6x ⊆ opcodeTable := fun r h => by simp [opcodeTable, h]
theorem opcodeRows7x_sub : opcodeRows7x ⊆ opcodeTable := fun r h => by simp [opcodeTable, h]
theorem opcodeRows8x_sub : opcodeRows8x ⊆ opcodeTable := fun r h => by simp [opcodeTable, h]
theorem opcodeRows9x_sub : opcodeRows9x ⊆ opcodeTable := fun r h => by simp [opcodeTable, h]
theorem opcodeRowsAx_sub : opcodeRowsAx ⊆ opcodeTable := fun r h => by simp [opcodeTable, h]
theorem opcodeRowsBx_sub : opcodeRowsBx ⊆ opcodeTable := fun r h => by simp [opcodeTable, h]
theorem opcodeRowsCx_sub : opcodeRowsCx ⊆ opcodeTable := fun r h => by simp [opcodeTable, h]
theorem opcodeRowsDx_sub : opcodeRowsDx ⊆ opcodeTable := fun r h => by simp [opcodeTable, h]
theorem opcodeRowsEx_sub : opcodeRowsEx ⊆ opcodeTable := fun r h => by simp [opcodeTable, h]
theorem opcodeRowsFx_sub : opcodeRowsFx ⊆ opcodeTable := fun r h => by simp [opcodeTable, h]

@[simp] theorem Instr.row_ldaImm (v : Byte) : (Instr.ldaImm v).row =
    some ⟨0xA9, "LDA", .imm, 2, false, .read, .byte .ldaImm⟩ :=
  Instr.row_of_part 7 opcodeRowsAx_sub rfl rfl
@[simp] theorem Instr.row_ldaZp (a : Byte) : (Instr.ldaZp a).row =
    some ⟨0xA5, "LDA", .zp, 3, false, .read, .byte .ldaZp⟩ :=
  Instr.row_of_part 4 opcodeRowsAx_sub rfl rfl
@[simp] theorem Instr.row_ldaZpx (a : Byte) : (Instr.ldaZpx a).row =
    some ⟨0xB5, "LDA", .zpx, 4, false, .read, .byte .ldaZpx⟩ :=
  Instr.row_of_part 3 opcodeRowsBx_sub rfl rfl
@[simp] theorem Instr.row_ldaAbs (a : Word) : (Instr.ldaAbs a).row =
    some ⟨0xAD, "LDA", .abs, 4, false, .read, .word .ldaAbs⟩ :=
  Instr.row_of_part 10 opcodeRowsAx_sub rfl rfl
@[simp] theorem Instr.row_ldaAbsx (a : Word) : (Instr.ldaAbsx a).row =
    some ⟨0xBD, "LDA", .absx, 4, true, .read, .word .ldaAbsx⟩ :=
  Instr.row_of_part 9 opcodeRowsBx_sub rfl rfl
@[simp] theorem Instr.row_ldaAbsy (a : Word) : (Instr.ldaAbsy a).row =
    some ⟨0xB9, "LDA", .absy, 4, true, .read, .word .ldaAbsy⟩ :=
  Instr.row_of_part 6 opcodeRowsBx_sub rfl rfl
@[simp] theorem Instr.row_ldaIndx (z : Byte) : (Instr.ldaIndx z).row =
    some ⟨0xA1, "LDA", .indx, 6, false, .read, .byte .ldaIndx⟩ :=
  Instr.row_of_part 1 opcodeRowsAx_sub rfl rfl
@[simp] theorem Instr.row_ldaIndy (z : Byte) : (Instr.ldaIndy z).row =
    some ⟨0xB1, "LDA", .indy, 5, true, .read, .byte .ldaIndy⟩ :=
  Instr.row_of_part 1 opcodeRowsBx_sub rfl rfl
@[simp] theorem Instr.row_ldxImm (v : Byte) : (Instr.ldxImm v).row =
    some ⟨0xA2, "LDX", .imm, 2, false, .read, .byte .ldxImm⟩ :=
  Instr.row_of_part 2 opcodeRowsAx_sub rfl rfl
@[simp] theorem Instr.row_ldxZp (a : Byte) : (Instr.ldxZp a).row =
    some ⟨0xA6, "LDX", .zp, 3, false, .read, .byte .ldxZp⟩ :=
  Instr.row_of_part 5 opcodeRowsAx_sub rfl rfl
@[simp] theorem Instr.row_ldxZpy (a : Byte) : (Instr.ldxZpy a).row =
    some ⟨0xB6, "LDX", .zpy, 4, false, .read, .byte .ldxZpy⟩ :=
  Instr.row_of_part 4 opcodeRowsBx_sub rfl rfl
@[simp] theorem Instr.row_ldxAbs (a : Word) : (Instr.ldxAbs a).row =
    some ⟨0xAE, "LDX", .abs, 4, false, .read, .word .ldxAbs⟩ :=
  Instr.row_of_part 11 opcodeRowsAx_sub rfl rfl
@[simp] theorem Instr.row_ldxAbsy (a : Word) : (Instr.ldxAbsy a).row =
    some ⟨0xBE, "LDX", .absy, 4, true, .read, .word .ldxAbsy⟩ :=
  Instr.row_of_part 10 opcodeRowsBx_sub rfl rfl
@[simp] theorem Instr.row_ldyImm (v : Byte) : (Instr.ldyImm v).row =
    some ⟨0xA0, "LDY", .imm, 2, false, .read, .byte .ldyImm⟩ :=
  Instr.row_of_part 0 opcodeRowsAx_sub rfl rfl
@[simp] theorem Instr.row_ldyZp (a : Byte) : (Instr.ldyZp a).row =
    some ⟨0xA4, "LDY", .zp, 3, false, .read, .byte .ldyZp⟩ :=
  Instr.row_of_part 3 opcodeRowsAx_sub rfl rfl
@[simp] theorem Instr.row_ldyZpx (a : Byte) : (Instr.ldyZpx a).row =
    some ⟨0xB4, "LDY", .zpx, 4, false, .read, .byte .ldyZpx⟩ :=
  Instr.row_of_part 2 opcodeRowsBx_sub rfl rfl
@[simp] theorem Instr.row_ldyAbs (a : Word) : (Instr.ldyAbs a).row =
    some ⟨0xAC, "LDY", .abs, 4, false, .read, .word .ldyAbs⟩ :=
  Instr.row_of_part 9 opcodeRowsAx_sub rfl rfl
@[simp] theorem Instr.row_ldyAbsx (a : Word) : (Instr.ldyAbsx a).row =
    some ⟨0xBC, "LDY", .absx, 4, true, .read, .word .ldyAbsx⟩ :=
  Instr.row_of_part 8 opcodeRowsBx_sub rfl rfl
@[simp] theorem Instr.row_staZp (a : Byte) : (Instr.staZp a).row =
    some ⟨0x85, "STA", .zp, 3, false, .write, .byte .staZp⟩ :=
  Instr.row_of_part 2 opcodeRows8x_sub rfl rfl
@[simp] theorem Instr.row_staZpx (a : Byte) : (Instr.staZpx a).row =
    some ⟨0x95, "STA", .zpx, 4, false, .write, .byte .staZpx⟩ :=
  Instr.row_of_part 3 opcodeRows9x_sub rfl rfl
@[simp] theorem Instr.row_staAbs (a : Word) : (Instr.staAbs a).row =
    some ⟨0x8D, "STA", .abs, 4, false, .write, .word .staAbs⟩ :=
  Instr.row_of_part 7 opcodeRows8x_sub rfl rfl
@[simp] theorem Instr.row_staAbsx (a : Word) : (Instr.staAbsx a).row =
    some ⟨0x9D, "STA", .absx, 5, false, .write, .word .staAbsx⟩ :=
  Instr.row_of_part 8 opcodeRows9x_sub rfl rfl
@[simp] theorem Instr.row_staAbsy (a : Word) : (Instr.staAbsy a).row =
    some ⟨0x99, "STA", .absy, 5, false, .write, .word .staAbsy⟩ :=
  Instr.row_of_part 6 opcodeRows9x_sub rfl rfl
@[simp] theorem Instr.row_staIndx (z : Byte) : (Instr.staIndx z).row =
    some ⟨0x81, "STA", .indx, 6, false, .write, .byte .staIndx⟩ :=
  Instr.row_of_part 0 opcodeRows8x_sub rfl rfl
@[simp] theorem Instr.row_staIndy (z : Byte) : (Instr.staIndy z).row =
    some ⟨0x91, "STA", .indy, 6, false, .write, .byte .staIndy⟩ :=
  Instr.row_of_part 1 opcodeRows9x_sub rfl rfl
@[simp] theorem Instr.row_stxZp (a : Byte) : (Instr.stxZp a).row =
    some ⟨0x86, "STX", .zp, 3, false, .write, .byte .stxZp⟩ :=
  Instr.row_of_part 3 opcodeRows8x_sub rfl rfl
@[simp] theorem Instr.row_stxZpy (a : Byte) : (Instr.stxZpy a).row =
    some ⟨0x96, "STX", .zpy, 4, false, .write, .byte .stxZpy⟩ :=
  Instr.row_of_part 4 opcodeRows9x_sub rfl rfl
@[simp] theorem Instr.row_stxAbs (a : Word) : (Instr.stxAbs a).row =
    some ⟨0x8E, "STX", .abs, 4, false, .write, .word .stxAbs⟩ :=
  Instr.row_of_part 8 opcodeRows8x_sub rfl rfl
@[simp] theorem Instr.row_styZp (a : Byte) : (Instr.styZp a).row =
    some ⟨0x84, "STY", .zp, 3, false, .write, .byte .styZp⟩ :=
  Instr.row_of_part 1 opcodeRows8x_sub rfl rfl
@[simp] theorem Instr.row_styZpx (a : Byte) : (Instr.styZpx a).row =
    some ⟨0x94, "STY", .zpx, 4, false, .write, .byte .styZpx⟩ :=
  Instr.row_of_part 2 opcodeRows9x_sub rfl rfl
@[simp] theorem Instr.row_styAbs (a : Word) : (Instr.styAbs a).row =
    some ⟨0x8C, "STY", .abs, 4, false, .write, .word .styAbs⟩ :=
  Instr.row_of_part 6 opcodeRows8x_sub rfl rfl
@[simp] theorem Instr.row_tax : (Instr.tax).row =
    some ⟨0xAA, "TAX", .imp, 2, false, .implied, .plain .tax⟩ :=
  Instr.row_of_part 8 opcodeRowsAx_sub rfl rfl
@[simp] theorem Instr.row_tay : (Instr.tay).row =
    some ⟨0xA8, "TAY", .imp, 2, false, .implied, .plain .tay⟩ :=
  Instr.row_of_part 6 opcodeRowsAx_sub rfl rfl
@[simp] theorem Instr.row_tsx : (Instr.tsx).row =
    some ⟨0xBA, "TSX", .imp, 2, false, .implied, .plain .tsx⟩ :=
  Instr.row_of_part 7 opcodeRowsBx_sub rfl rfl
@[simp] theorem Instr.row_txa : (Instr.txa).row =
    some ⟨0x8A, "TXA", .imp, 2, false, .implied, .plain .txa⟩ :=
  Instr.row_of_part 5 opcodeRows8x_sub rfl rfl
@[simp] theorem Instr.row_txs : (Instr.txs).row =
    some ⟨0x9A, "TXS", .imp, 2, false, .implied, .plain .txs⟩ :=
  Instr.row_of_part 7 opcodeRows9x_sub rfl rfl
@[simp] theorem Instr.row_tya : (Instr.tya).row =
    some ⟨0x98, "TYA", .imp, 2, false, .implied, .plain .tya⟩ :=
  Instr.row_of_part 5 opcodeRows9x_sub rfl rfl
@[simp] theorem Instr.row_adcImm (v : Byte) : (Instr.adcImm v).row =
    some ⟨0x69, "ADC", .imm, 2, false, .read, .byte .adcImm⟩ :=
  Instr.row_of_part 5 opcodeRows6x_sub rfl rfl
@[simp] theorem Instr.row_adcZp (a : Byte) : (Instr.adcZp a).row =
    some ⟨0x65, "ADC", .zp, 3, false, .read, .byte .adcZp⟩ :=
  Instr.row_of_part 2 opcodeRows6x_sub rfl rfl
@[simp] theorem Instr.row_adcZpx (a : Byte) : (Instr.adcZpx a).row =
    some ⟨0x75, "ADC", .zpx, 4, false, .read, .byte .adcZpx⟩ :=
  Instr.row_of_part 2 opcodeRows7x_sub rfl rfl
@[simp] theorem Instr.row_adcAbs (a : Word) : (Instr.adcAbs a).row =
    some ⟨0x6D, "ADC", .abs, 4, false, .read, .word .adcAbs⟩ :=
  Instr.row_of_part 8 opcodeRows6x_sub rfl rfl
@[simp] theorem Instr.row_adcAbsx (a : Word) : (Instr.adcAbsx a).row =
    some ⟨0x7D, "ADC", .absx, 4, true, .read, .word .adcAbsx⟩ :=
  Instr.row_of_part 6 opcodeRows7x_sub rfl rfl
@[simp] theorem Instr.row_adcAbsy (a : Word) : (Instr.adcAbsy a).row =
    some ⟨0x79, "ADC", .absy, 4, true, .read, .word .adcAbsy⟩ :=
  Instr.row_of_part 5 opcodeRows7x_sub rfl rfl
@[simp] theorem Instr.row_adcIndx (z : Byte) : (Instr.adcIndx z).row =
    some ⟨0x61, "ADC", .indx, 6, false, .read, .byte .adcIndx⟩ :=
  Instr.row_of_part 1 opcodeRows6x_sub rfl rfl
@[simp] theorem Instr.row_adcIndy (z : Byte) : (Instr.adcIndy z).row =
    some ⟨0x71, "ADC", .indy, 5, true, .read, .byte .adcIndy⟩ :=
  Instr.row_of_part 1 opcodeRows7x_sub rfl rfl
@[simp] theorem Instr.row_sbcImm (v : Byte) : (Instr.sbcImm v).row =
    some ⟨0xE9, "SBC", .imm, 2, false, .read, .byte .sbcImm⟩ :=
  Instr.row_of_part 6 opcodeRowsEx_sub rfl rfl
@[simp] theorem Instr.row_sbcZp (a : Byte) : (Instr.sbcZp a).row =
    some ⟨0xE5, "SBC", .zp, 3, false, .read, .byte .sbcZp⟩ :=
  Instr.row_of_part 3 opcodeRowsEx_sub rfl rfl
@[simp] theorem Instr.row_sbcZpx (a : Byte) : (Instr.sbcZpx a).row =
    some ⟨0xF5, "SBC", .zpx, 4, false, .read, .byte .sbcZpx⟩ :=
  Instr.row_of_part 2 opcodeRowsFx_sub rfl rfl
@[simp] theorem Instr.row_sbcAbs (a : Word) : (Instr.sbcAbs a).row =
    some ⟨0xED, "SBC", .abs, 4, false, .read, .word .sbcAbs⟩ :=
  Instr.row_of_part 9 opcodeRowsEx_sub rfl rfl
@[simp] theorem Instr.row_sbcAbsx (a : Word) : (Instr.sbcAbsx a).row =
    some ⟨0xFD, "SBC", .absx, 4, true, .read, .word .sbcAbsx⟩ :=
  Instr.row_of_part 6 opcodeRowsFx_sub rfl rfl
@[simp] theorem Instr.row_sbcAbsy (a : Word) : (Instr.sbcAbsy a).row =
    some ⟨0xF9, "SBC", .absy, 4, true, .read, .word .sbcAbsy⟩ :=
  Instr.row_of_part 5 opcodeRowsFx_sub rfl rfl
@[simp] theorem Instr.row_sbcIndx (z : Byte) : (Instr.sbcIndx z).row =
    some ⟨0xE1, "SBC", .indx, 6, false, .read, .byte .sbcIndx⟩ :=
  Instr.row_of_part 1 opcodeRowsEx_sub rfl rfl
@[simp] theorem Instr.row_sbcIndy (z : Byte) : (Instr.sbcIndy z).row =
    some ⟨0xF1, "SBC", .indy, 5, true, .read, .byte .sbcIndy⟩ :=
  Instr.row_of_part 1 opcodeRowsFx_sub rfl rfl
@[simp] theorem Instr.row_andImm (v : Byte) : (Instr.andImm v).row =
    some ⟨0x29, "AND", .imm, 2, false, .read, .byte .andImm⟩ :=
  Instr.row_of_part 6 opcodeRows2x_sub rfl rfl
@[simp] theorem Instr.row_andZp (a : Byte) : (Instr.andZp a).row =
    some ⟨0x25, "AND", .zp, 3, false, .read, .byte .andZp⟩ :=
  Instr.row_of_part 3 opcodeRows2x_sub rfl rfl
@[simp] theorem Instr.row_andZpx (a : Byte) : (Instr.andZpx a).row =
    some ⟨0x35, "AND", .zpx, 4, false, .read, .byte .andZpx⟩ :=
  Instr.row_of_part 2 opcodeRows3x_sub rfl rfl
@[simp] theorem Instr.row_andAbs (a : Word) : (Instr.andAbs a).row =
    some ⟨0x2D, "AND", .abs, 4, false, .read, .word .andAbs⟩ :=
  Instr.row_of_part 9 opcodeRows2x_sub rfl rfl
@[simp] theorem Instr.row_andAbsx (a : Word) : (Instr.andAbsx a).row =
    some ⟨0x3D, "AND", .absx, 4, true, .read, .word .andAbsx⟩ :=
  Instr.row_of_part 6 opcodeRows3x_sub rfl rfl
@[simp] theorem Instr.row_andAbsy (a : Word) : (Instr.andAbsy a).row =
    some ⟨0x39, "AND", .absy, 4, true, .read, .word .andAbsy⟩ :=
  Instr.row_of_part 5 opcodeRows3x_sub rfl rfl
@[simp] theorem Instr.row_andIndx (z : Byte) : (Instr.andIndx z).row =
    some ⟨0x21, "AND", .indx, 6, false, .read, .byte .andIndx⟩ :=
  Instr.row_of_part 1 opcodeRows2x_sub rfl rfl
@[simp] theorem Instr.row_andIndy (z : Byte) : (Instr.andIndy z).row =
    some ⟨0x31, "AND", .indy, 5, true, .read, .byte .andIndy⟩ :=
  Instr.row_of_part 1 opcodeRows3x_sub rfl rfl
@[simp] theorem Instr.row_oraImm (v : Byte) : (Instr.oraImm v).row =
    some ⟨0x09, "ORA", .imm, 2, false, .read, .byte .oraImm⟩ :=
  Instr.row_of_part 5 opcodeRows0x_sub rfl rfl
@[simp] theorem Instr.row_oraZp (a : Byte) : (Instr.oraZp a).row =
    some ⟨0x05, "ORA", .zp, 3, false, .read, .byte .oraZp⟩ :=
  Instr.row_of_part 2 opcodeRows0x_sub rfl rfl
@[simp] theorem Instr.row_oraZpx (a : Byte) : (Instr.oraZpx a).row =
    some ⟨0x15, "ORA", .zpx, 4, false, .read, .byte .oraZpx⟩ :=
  Instr.row_of_part 2 opcodeRows1x_sub rfl rfl
@[simp] theorem Instr.row_oraAbs (a : Word) : (Instr.oraAbs a).row =
    some ⟨0x0D, "ORA", .abs, 4, false, .read, .word .oraAbs⟩ :=
  Instr.row_of_part 7 opcodeRows0x_sub rfl rfl
@[simp] theorem Instr.row_oraAbsx (a : Word) : (Instr.oraAbsx a).row =
    some ⟨0x1D, "ORA", .absx, 4, true, .read, .word .oraAbsx⟩ :=
  Instr.row_of_part 6 opcodeRows1x_sub rfl rfl
@[simp] theorem Instr.row_oraAbsy (a : Word) : (Instr.oraAbsy a).row =
    some ⟨0x19, "ORA", .absy, 4, true, .read, .word .oraAbsy⟩ :=
  Instr.row_of_part 5 opcodeRows1x_sub rfl rfl
@[simp] theorem Instr.row_oraIndx (z : Byte) : (Instr.oraIndx z).row =
    some ⟨0x01, "ORA", .indx, 6, false, .read, .byte .oraIndx⟩ :=
  Instr.row_of_part 1 opcodeRows0x_sub rfl rfl
@[simp] theorem Instr.row_oraIndy (z : Byte) : (Instr.oraIndy z).row =
    some ⟨0x11, "ORA", .indy, 5, true, .read, .byte .oraIndy⟩ :=
  Instr.row_of_part 1 opcodeRows1x_sub rfl rfl
@[simp] theorem Instr.row_eorImm (v : Byte) : (Instr.eorImm v).row =
    some ⟨0x49, "EOR", .imm, 2, false, .read, .byte .eorImm⟩ :=
  Instr.row_of_part 5 opcodeRows4x_sub rfl rfl
@[simp] theorem Instr.row_eorZp (a : Byte) : (Instr.eorZp a).row =
    some ⟨0x45, "EOR", .zp, 3, false, .read, .byte .eorZp⟩ :=
  Instr.row_of_part 2 opcodeRows4x_sub rfl rfl
@[simp] theorem Instr.row_eorZpx (a : Byte) : (Instr.eorZpx a).row =
    some ⟨0x55, "EOR", .zpx, 4, false, .read, .byte .eorZpx⟩ :=
  Instr.row_of_part 2 opcodeRows5x_sub rfl rfl
@[simp] theorem Instr.row_eorAbs (a : Word) : (Instr.eorAbs a).row =
    some ⟨0x4D, "EOR", .abs, 4, false, .read, .word .eorAbs⟩ :=
  Instr.row_of_part 8 opcodeRows4x_sub rfl rfl
@[simp] theorem Instr.row_eorAbsx (a : Word) : (Instr.eorAbsx a).row =
    some ⟨0x5D, "EOR", .absx, 4, true, .read, .word .eorAbsx⟩ :=
  Instr.row_of_part 6 opcodeRows5x_sub rfl rfl
@[simp] theorem Instr.row_eorAbsy (a : Word) : (Instr.eorAbsy a).row =
    some ⟨0x59, "EOR", .absy, 4, true, .read, .word .eorAbsy⟩ :=
  Instr.row_of_part 5 opcodeRows5x_sub rfl rfl
@[simp] theorem Instr.row_eorIndx (z : Byte) : (Instr.eorIndx z).row =
    some ⟨0x41, "EOR", .indx, 6, false, .read, .byte .eorIndx⟩ :=
  Instr.row_of_part 1 opcodeRows4x_sub rfl rfl
@[simp] theorem Instr.row_eorIndy (z : Byte) : (Instr.eorIndy z).row =
    some ⟨0x51, "EOR", .indy, 5, true, .read, .byte .eorIndy⟩ :=
  Instr.row_of_part 1 opcodeRows5x_sub rfl rfl
@[simp] theorem Instr.row_bitZp (a : Byte) : (Instr.bitZp a).row =
    some ⟨0x24, "BIT", .zp, 3, false, .read, .byte .bitZp⟩ :=
  Instr.row_of_part 2 opcodeRows2x_sub rfl rfl
@[simp] theorem Instr.row_bitAbs (a : Word) : (Instr.bitAbs a).row =
    some ⟨0x2C, "BIT", .abs, 4, false, .read, .word .bitAbs⟩ :=
  Instr.row_of_part 8 opcodeRows2x_sub rfl rfl
@[simp] theorem Instr.row_cmpImm (v : Byte) : (Instr.cmpImm v).row =
    some ⟨0xC9, "CMP", .imm, 2, false, .read, .byte .cmpImm⟩ :=
  Instr.row_of_part 6 opcodeRowsCx_sub rfl rfl
@[simp] theorem Instr.row_cmpZp (a : Byte) : (Instr.cmpZp a).row =
    some ⟨0xC5, "CMP", .zp, 3, false, .read, .byte .cmpZp⟩ :=
  Instr.row_of_part 3 opcodeRowsCx_sub rfl rfl
@[simp] theorem Instr.row_cmpZpx (a : Byte) : (Instr.cmpZpx a).row =
    some ⟨0xD5, "CMP", .zpx, 4, false, .read, .byte .cmpZpx⟩ :=
  Instr.row_of_part 2 opcodeRowsDx_sub rfl rfl
@[simp] theorem Instr.row_cmpAbs (a : Word) : (Instr.cmpAbs a).row =
    some ⟨0xCD, "CMP", .abs, 4, false, .read, .word .cmpAbs⟩ :=
  Instr.row_of_part 9 opcodeRowsCx_sub rfl rfl
@[simp] theorem Instr.row_cmpAbsx (a : Word) : (Instr.cmpAbsx a).row =
    some ⟨0xDD, "CMP", .absx, 4, true, .read, .word .cmpAbsx⟩ :=
  Instr.row_of_part 6 opcodeRowsDx_sub rfl rfl
@[simp] theorem Instr.row_cmpAbsy (a : Word) : (Instr.cmpAbsy a).row =
    some ⟨0xD9, "CMP", .absy, 4, true, .read, .word .cmpAbsy⟩ :=
  Instr.row_of_part 5 opcodeRowsDx_sub rfl rfl
@[simp] theorem Instr.row_cmpIndx (z : Byte) : (Instr.cmpIndx z).row =
    some ⟨0xC1, "CMP", .indx, 6, false, .read, .byte .cmpIndx⟩ :=
  Instr.row_of_part 1 opcodeRowsCx_sub rfl rfl
@[simp] theorem Instr.row_cmpIndy (z : Byte) : (Instr.cmpIndy z).row =
    some ⟨0xD1, "CMP", .indy, 5, true, .read, .byte .cmpIndy⟩ :=
  Instr.row_of_part 1 opcodeRowsDx_sub rfl rfl
@[simp] theorem Instr.row_cpxImm (v : Byte) : (Instr.cpxImm v).row =
    some ⟨0xE0, "CPX", .imm, 2, false, .read, .byte .cpxImm⟩ :=
  Instr.row_of_part 0 opcodeRowsEx_sub rfl rfl
@[simp] theorem Instr.row_cpxZp (a : Byte) : (Instr.cpxZp a).row =
    some ⟨0xE4, "CPX", .zp, 3, false, .read, .byte .cpxZp⟩ :=
  Instr.row_of_part 2 opcodeRowsEx_sub rfl rfl
@[simp] theorem Instr.row_cpxAbs (a : Word) : (Instr.cpxAbs a).row =
    some ⟨0xEC, "CPX", .abs, 4, false, .read, .word .cpxAbs⟩ :=
  Instr.row_of_part 8 opcodeRowsEx_sub rfl rfl
@[simp] theorem Instr.row_cpyImm (v : Byte) : (Instr.cpyImm v).row =
    some ⟨0xC0, "CPY", .imm, 2, false, .read, .byte .cpyImm⟩ :=
  Instr.row_of_part 0 opcodeRowsCx_sub rfl rfl
@[simp] theorem Instr.row_cpyZp (a : Byte) : (Instr.cpyZp a).row =
    some ⟨0xC4, "CPY", .zp, 3, false, .read, .byte .cpyZp⟩ :=
  Instr.row_of_part 2 opcodeRowsCx_sub rfl rfl
@[simp] theorem Instr.row_cpyAbs (a : Word) : (Instr.cpyAbs a).row =
    some ⟨0xCC, "CPY", .abs, 4, false, .read, .word .cpyAbs⟩ :=
  Instr.row_of_part 8 opcodeRowsCx_sub rfl rfl
@[simp] theorem Instr.row_incZp (a : Byte) : (Instr.incZp a).row =
    some ⟨0xE6, "INC", .zp, 5, false, .rmw, .byte .incZp⟩ :=
  Instr.row_of_part 4 opcodeRowsEx_sub rfl rfl
@[simp] theorem Instr.row_incZpx (a : Byte) : (Instr.incZpx a).row =
    some ⟨0xF6, "INC", .zpx, 6, false, .rmw, .byte .incZpx⟩ :=
  Instr.row_of_part 3 opcodeRowsFx_sub rfl rfl
@[simp] theorem Instr.row_incAbs (a : Word) : (Instr.incAbs a).row =
    some ⟨0xEE, "INC", .abs, 6, false, .rmw, .word .incAbs⟩ :=
  Instr.row_of_part 10 opcodeRowsEx_sub rfl rfl
@[simp] theorem Instr.row_incAbsx (a : Word) : (Instr.incAbsx a).row =
    some ⟨0xFE, "INC", .absx, 7, false, .rmw, .word .incAbsx⟩ :=
  Instr.row_of_part 7 opcodeRowsFx_sub rfl rfl
@[simp] theorem Instr.row_decZp (a : Byte) : (Instr.decZp a).row =
    some ⟨0xC6, "DEC", .zp, 5, false, .rmw, .byte .decZp⟩ :=
  Instr.row_of_part 4 opcodeRowsCx_sub rfl rfl
@[simp] theorem Instr.row_decZpx (a : Byte) : (Instr.decZpx a).row =
    some ⟨0xD6, "DEC", .zpx, 6, false, .rmw, .byte .decZpx⟩ :=
  Instr.row_of_part 3 opcodeRowsDx_sub rfl rfl
@[simp] theorem Instr.row_decAbs (a : Word) : (Instr.decAbs a).row =
    some ⟨0xCE, "DEC", .abs, 6, false, .rmw, .word .decAbs⟩ :=
  Instr.row_of_part 10 opcodeRowsCx_sub rfl rfl
@[simp] theorem Instr.row_decAbsx (a : Word) : (Instr.decAbsx a).row =
    some ⟨0xDE, "DEC", .absx, 7, false, .rmw, .word .decAbsx⟩ :=
  Instr.row_of_part 7 opcodeRowsDx_sub rfl rfl
@[simp] theorem Instr.row_inx : (Instr.inx).row =
    some ⟨0xE8, "INX", .imp, 2, false, .implied, .plain .inx⟩ :=
  Instr.row_of_part 5 opcodeRowsEx_sub rfl rfl
@[simp] theorem Instr.row_iny : (Instr.iny).row =
    some ⟨0xC8, "INY", .imp, 2, false, .implied, .plain .iny⟩ :=
  Instr.row_of_part 5 opcodeRowsCx_sub rfl rfl
@[simp] theorem Instr.row_dex : (Instr.dex).row =
    some ⟨0xCA, "DEX", .imp, 2, false, .implied, .plain .dex⟩ :=
  Instr.row_of_part 7 opcodeRowsCx_sub rfl rfl
@[simp] theorem Instr.row_dey : (Instr.dey).row =
    some ⟨0x88, "DEY", .imp, 2, false, .implied, .plain .dey⟩ :=
  Instr.row_of_part 4 opcodeRows8x_sub rfl rfl
@[simp] theorem Instr.row_aslAcc : (Instr.aslAcc).row =
    some ⟨0x0A, "ASL", .acc, 2, false, .acc, .plain .aslAcc⟩ :=
  Instr.row_of_part 6 opcodeRows0x_sub rfl rfl
@[simp] theorem Instr.row_aslZp (a : Byte) : (Instr.aslZp a).row =
    some ⟨0x06, "ASL", .zp, 5, false, .rmw, .byte .aslZp⟩ :=
  Instr.row_of_part 3 opcodeRows0x_sub rfl rfl
@[simp] theorem Instr.row_aslZpx (a : Byte) : (Instr.aslZpx a).row =
    some ⟨0x16, "ASL", .zpx, 6, false, .rmw, .byte .aslZpx⟩ :=
  Instr.row_of_part 3 opcodeRows1x_sub rfl rfl
@[simp] theorem Instr.row_aslAbs (a : Word) : (Instr.aslAbs a).row =
    some ⟨0x0E, "ASL", .abs, 6, false, .rmw, .word .aslAbs⟩ :=
  Instr.row_of_part 8 opcodeRows0x_sub rfl rfl
@[simp] theorem Instr.row_aslAbsx (a : Word) : (Instr.aslAbsx a).row =
    some ⟨0x1E, "ASL", .absx, 7, false, .rmw, .word .aslAbsx⟩ :=
  Instr.row_of_part 7 opcodeRows1x_sub rfl rfl
@[simp] theorem Instr.row_lsrAcc : (Instr.lsrAcc).row =
    some ⟨0x4A, "LSR", .acc, 2, false, .acc, .plain .lsrAcc⟩ :=
  Instr.row_of_part 6 opcodeRows4x_sub rfl rfl
@[simp] theorem Instr.row_lsrZp (a : Byte) : (Instr.lsrZp a).row =
    some ⟨0x46, "LSR", .zp, 5, false, .rmw, .byte .lsrZp⟩ :=
  Instr.row_of_part 3 opcodeRows4x_sub rfl rfl
@[simp] theorem Instr.row_lsrZpx (a : Byte) : (Instr.lsrZpx a).row =
    some ⟨0x56, "LSR", .zpx, 6, false, .rmw, .byte .lsrZpx⟩ :=
  Instr.row_of_part 3 opcodeRows5x_sub rfl rfl
@[simp] theorem Instr.row_lsrAbs (a : Word) : (Instr.lsrAbs a).row =
    some ⟨0x4E, "LSR", .abs, 6, false, .rmw, .word .lsrAbs⟩ :=
  Instr.row_of_part 9 opcodeRows4x_sub rfl rfl
@[simp] theorem Instr.row_lsrAbsx (a : Word) : (Instr.lsrAbsx a).row =
    some ⟨0x5E, "LSR", .absx, 7, false, .rmw, .word .lsrAbsx⟩ :=
  Instr.row_of_part 7 opcodeRows5x_sub rfl rfl
@[simp] theorem Instr.row_rolAcc : (Instr.rolAcc).row =
    some ⟨0x2A, "ROL", .acc, 2, false, .acc, .plain .rolAcc⟩ :=
  Instr.row_of_part 7 opcodeRows2x_sub rfl rfl
@[simp] theorem Instr.row_rolZp (a : Byte) : (Instr.rolZp a).row =
    some ⟨0x26, "ROL", .zp, 5, false, .rmw, .byte .rolZp⟩ :=
  Instr.row_of_part 4 opcodeRows2x_sub rfl rfl
@[simp] theorem Instr.row_rolZpx (a : Byte) : (Instr.rolZpx a).row =
    some ⟨0x36, "ROL", .zpx, 6, false, .rmw, .byte .rolZpx⟩ :=
  Instr.row_of_part 3 opcodeRows3x_sub rfl rfl
@[simp] theorem Instr.row_rolAbs (a : Word) : (Instr.rolAbs a).row =
    some ⟨0x2E, "ROL", .abs, 6, false, .rmw, .word .rolAbs⟩ :=
  Instr.row_of_part 10 opcodeRows2x_sub rfl rfl
@[simp] theorem Instr.row_rolAbsx (a : Word) : (Instr.rolAbsx a).row =
    some ⟨0x3E, "ROL", .absx, 7, false, .rmw, .word .rolAbsx⟩ :=
  Instr.row_of_part 7 opcodeRows3x_sub rfl rfl
@[simp] theorem Instr.row_rorAcc : (Instr.rorAcc).row =
    some ⟨0x6A, "ROR", .acc, 2, false, .acc, .plain .rorAcc⟩ :=
  Instr.row_of_part 6 opcodeRows6x_sub rfl rfl
@[simp] theorem Instr.row_rorZp (a : Byte) : (Instr.rorZp a).row =
    some ⟨0x66, "ROR", .zp, 5, false, .rmw, .byte .rorZp⟩ :=
  Instr.row_of_part 3 opcodeRows6x_sub rfl rfl
@[simp] theorem Instr.row_rorZpx (a : Byte) : (Instr.rorZpx a).row =
    some ⟨0x76, "ROR", .zpx, 6, false, .rmw, .byte .rorZpx⟩ :=
  Instr.row_of_part 3 opcodeRows7x_sub rfl rfl
@[simp] theorem Instr.row_rorAbs (a : Word) : (Instr.rorAbs a).row =
    some ⟨0x6E, "ROR", .abs, 6, false, .rmw, .word .rorAbs⟩ :=
  Instr.row_of_part 9 opcodeRows6x_sub rfl rfl
@[simp] theorem Instr.row_rorAbsx (a : Word) : (Instr.rorAbsx a).row =
    some ⟨0x7E, "ROR", .absx, 7, false, .rmw, .word .rorAbsx⟩ :=
  Instr.row_of_part 7 opcodeRows7x_sub rfl rfl
@[simp] theorem Instr.row_bcc (off : Byte) : (Instr.bcc off).row =
    some ⟨0x90, "BCC", .rel, 2, false, .branch, .byte .bcc⟩ :=
  Instr.row_of_part 0 opcodeRows9x_sub rfl rfl
@[simp] theorem Instr.row_bcs (off : Byte) : (Instr.bcs off).row =
    some ⟨0xB0, "BCS", .rel, 2, false, .branch, .byte .bcs⟩ :=
  Instr.row_of_part 0 opcodeRowsBx_sub rfl rfl
@[simp] theorem Instr.row_beq (off : Byte) : (Instr.beq off).row =
    some ⟨0xF0, "BEQ", .rel, 2, false, .branch, .byte .beq⟩ :=
  Instr.row_of_part 0 opcodeRowsFx_sub rfl rfl
@[simp] theorem Instr.row_bmi (off : Byte) : (Instr.bmi off).row =
    some ⟨0x30, "BMI", .rel, 2, false, .branch, .byte .bmi⟩ :=
  Instr.row_of_part 0 opcodeRows3x_sub rfl rfl
@[simp] theorem Instr.row_bne (off : Byte) : (Instr.bne off).row =
    some ⟨0xD0, "BNE", .rel, 2, false, .branch, .byte .bne⟩ :=
  Instr.row_of_part 0 opcodeRowsDx_sub rfl rfl
@[simp] theorem Instr.row_bpl (off : Byte) : (Instr.bpl off).row =
    some ⟨0x10, "BPL", .rel, 2, false, .branch, .byte .bpl⟩ :=
  Instr.row_of_part 0 opcodeRows1x_sub rfl rfl
@[simp] theorem Instr.row_bvc (off : Byte) : (Instr.bvc off).row =
    some ⟨0x50, "BVC", .rel, 2, false, .branch, .byte .bvc⟩ :=
  Instr.row_of_part 0 opcodeRows5x_sub rfl rfl
@[simp] theorem Instr.row_bvs (off : Byte) : (Instr.bvs off).row =
    some ⟨0x70, "BVS", .rel, 2, false, .branch, .byte .bvs⟩ :=
  Instr.row_of_part 0 opcodeRows7x_sub rfl rfl
@[simp] theorem Instr.row_jmpAbs (a : Word) : (Instr.jmpAbs a).row =
    some ⟨0x4C, "JMP", .abs, 3, false, .jump, .word .jmpAbs⟩ :=
  Instr.row_of_part 7 opcodeRows4x_sub rfl rfl
@[simp] theorem Instr.row_jmpInd (p : Word) : (Instr.jmpInd p).row =
    some ⟨0x6C, "JMP", .ind, 5, false, .jump, .word .jmpInd⟩ :=
  Instr.row_of_part 7 opcodeRows6x_sub rfl rfl
@[simp] theorem Instr.row_jsr (lo : Byte) : (Instr.jsr lo).row =
    some ⟨0x20, "JSR", .abs, 6, false, .stack, .byte .jsr⟩ :=
  Instr.row_of_part 0 opcodeRows2x_sub rfl rfl
@[simp] theorem Instr.row_rts : (Instr.rts).row =
    some ⟨0x60, "RTS", .imp, 6, false, .stack, .plain .rts⟩ :=
  Instr.row_of_part 0 opcodeRows6x_sub rfl rfl
@[simp] theorem Instr.row_pha : (Instr.pha).row =
    some ⟨0x48, "PHA", .imp, 3, false, .stack, .plain .pha⟩ :=
  Instr.row_of_part 4 opcodeRows4x_sub rfl rfl
@[simp] theorem Instr.row_php : (Instr.php).row =
    some ⟨0x08, "PHP", .imp, 3, false, .stack, .plain .php⟩ :=
  Instr.row_of_part 4 opcodeRows0x_sub rfl rfl
@[simp] theorem Instr.row_pla : (Instr.pla).row =
    some ⟨0x68, "PLA", .imp, 4, false, .stack, .plain .pla⟩ :=
  Instr.row_of_part 4 opcodeRows6x_sub rfl rfl
@[simp] theorem Instr.row_plp : (Instr.plp).row =
    some ⟨0x28, "PLP", .imp, 4, false, .stack, .plain .plp⟩ :=
  Instr.row_of_part 5 opcodeRows2x_sub rfl rfl
@[simp] theorem Instr.row_clc : (Instr.clc).row =
    some ⟨0x18, "CLC", .imp, 2, false, .implied, .plain .clc⟩ :=
  Instr.row_of_part 4 opcodeRows1x_sub rfl rfl
@[simp] theorem Instr.row_cld : (Instr.cld).row =
    some ⟨0xD8, "CLD", .imp, 2, false, .implied, .plain .cld⟩ :=
  Instr.row_of_part 4 opcodeRowsDx_sub rfl rfl
@[simp] theorem Instr.row_cli : (Instr.cli).row =
    some ⟨0x58, "CLI", .imp, 2, false, .implied, .plain .cli⟩ :=
  Instr.row_of_part 4 opcodeRows5x_sub rfl rfl
@[simp] theorem Instr.row_clv : (Instr.clv).row =
    some ⟨0xB8, "CLV", .imp, 2, false, .implied, .plain .clv⟩ :=
  Instr.row_of_part 5 opcodeRowsBx_sub rfl rfl
@[simp] theorem Instr.row_sec : (Instr.sec).row =
    some ⟨0x38, "SEC", .imp, 2, false, .implied, .plain .sec⟩ :=
  Instr.row_of_part 4 opcodeRows3x_sub rfl rfl
@[simp] theorem Instr.row_sed : (Instr.sed).row =
    some ⟨0xF8, "SED", .imp, 2, false, .implied, .plain .sed⟩ :=
  Instr.row_of_part 4 opcodeRowsFx_sub rfl rfl
@[simp] theorem Instr.row_sei : (Instr.sei).row =
    some ⟨0x78, "SEI", .imp, 2, false, .implied, .plain .sei⟩ :=
  Instr.row_of_part 4 opcodeRows7x_sub rfl rfl
@[simp] theorem Instr.row_nop : (Instr.nop).row =
    some ⟨0xEA, "NOP", .imp, 2, false, .implied, .plain .nop⟩ :=
  Instr.row_of_part 7 opcodeRowsEx_sub rfl rfl
@[simp] theorem Instr.row_brk : (Instr.brk).row =
    some ⟨0x00, "BRK", .imp, 7, false, .stack, .plain .brk⟩ :=
  Instr.row_of_part 0 opcodeRows0x_sub rfl rfl
@[simp] theorem Instr.row_rti : (Instr.rti).row =
    some ⟨0x40, "RTI", .imp, 6, false, .stack, .plain .rti⟩ :=
  Instr.row_of_part 0 opcodeRows4x_sub rfl rfl

/-- What an opcode byte builds is well-formed, has that opcode, and carries the operand bytes it was built from. -/
def BuildFaithful (op : Byte) : Build → Prop
  | .plain i => i.wellFormed = true ∧ i.opcode = op ∧ i.operands = []
  | .byte f => ∀ b, (f b).wellFormed = true ∧ (f b).opcode = op ∧ (f b).operands = [b]
  | .word f => ∀ w, (f w).wellFormed = true ∧ (f w).opcode = op ∧ (f w).operands = [lo8 w, hi8 w]

theorem opcodeRows0x_faithful : ∀ r ∈ opcodeRows0x, BuildFaithful (BitVec.ofNat 8 r.opcode) r.build :=
  List.forall_mem_cons.2 ⟨⟨rfl, rfl, rfl⟩,
  List.forall_mem_cons.2 ⟨fun _ => ⟨rfl, rfl, rfl⟩,
  List.forall_mem_cons.2 ⟨fun _ => ⟨rfl, rfl, rfl⟩,
  List.forall_mem_cons.2 ⟨fun _ => ⟨rfl, rfl, rfl⟩,
  List.forall_mem_cons.2 ⟨⟨rfl, rfl, rfl⟩,
  List.forall_mem_cons.2 ⟨fun _ => ⟨rfl, rfl, rfl⟩,
  List.forall_mem_cons.2 ⟨⟨rfl, rfl, rfl⟩,
  List.forall_mem_cons.2 ⟨fun _ => ⟨rfl, rfl, rfl⟩,
  List.forall_mem_cons.2 ⟨fun _ => ⟨rfl, rfl, rfl⟩,
  List.forall_mem_nil _⟩⟩⟩⟩⟩⟩⟩⟩⟩
theorem opcodeRows1x_faithful : ∀ r ∈ opcodeRows1x, BuildFaithful (BitVec.ofNat 8 r.opcode) r.build :=
  List.forall_mem_cons.2 ⟨fun _ => ⟨rfl, rfl, rfl⟩,
  List.forall_mem_cons.2 ⟨fun _ => ⟨rfl, rfl, rfl⟩,
  List.forall_mem_cons.2 ⟨fun _ => ⟨rfl, rfl, rfl⟩,
  List.forall_mem_cons.2 ⟨fun _ => ⟨rfl, rfl, rfl⟩,
  List.forall_mem_cons.2 ⟨⟨rfl, rfl, rfl⟩,
  List.forall_mem_cons.2 ⟨fun _ => ⟨rfl, rfl, rfl⟩,
  List.forall_mem_cons.2 ⟨fun _ => ⟨rfl, rfl, rfl⟩,
  List.forall_mem_cons.2 ⟨fun _ => ⟨rfl, rfl, rfl⟩,
  List.forall_mem_nil _⟩⟩⟩⟩⟩⟩⟩⟩
theorem opcodeRows2x_faithful : ∀ r ∈ opcodeRows2x, BuildFaithful (BitVec.ofNat 8 r.opcode) r.build :=
  List.forall_mem_cons.2 ⟨fun _ => ⟨rfl, rfl, rfl⟩,
  List.forall_mem_cons.2 ⟨fun _ => ⟨rfl, rfl, rfl⟩,
  List.forall_mem_cons.2 ⟨fun _ => ⟨rfl, rfl, rfl⟩,
  List.forall_mem_cons.2 ⟨fun _ => ⟨rfl, rfl, rfl⟩,
  List.forall_mem_cons.2 ⟨fun _ => ⟨rfl, rfl, rfl⟩,
  List.forall_mem_cons.2 ⟨⟨rfl, rfl, rfl⟩,
  List.forall_mem_cons.2 ⟨fun _ => ⟨rfl, rfl, rfl⟩,
  List.forall_mem_cons.2 ⟨⟨rfl, rfl, rfl⟩,
  List.forall_mem_cons.2 ⟨fun _ => ⟨rfl, rfl, rfl⟩,
  List.forall_mem_cons.2 ⟨fun _ => ⟨rfl, rfl, rfl⟩,
  List.forall_mem_cons.2 ⟨fun _ => ⟨rfl, rfl, rfl⟩,
  List.forall_mem_nil _⟩⟩⟩⟩⟩⟩⟩⟩⟩⟩⟩
theorem opcodeRows3x_faithful : ∀ r ∈ opcodeRows3x, BuildFaithful (BitVec.ofNat 8 r.opcode) r.build :=
  List.forall_mem_cons.2 ⟨fun _ => ⟨rfl, rfl, rfl⟩,
  List.forall_mem_cons.2 ⟨fun _ => ⟨rfl, rfl, rfl⟩,
  List.forall_mem_cons.2 ⟨fun _ => ⟨rfl, rfl, rfl⟩,
  List.forall_mem_cons.2 ⟨fun _ => ⟨rfl, rfl, rfl⟩,
  List.forall_mem_cons.2 ⟨⟨rfl, rfl, rfl⟩,
  List.forall_mem_cons.2 ⟨fun _ => ⟨rfl, rfl, rfl⟩,
  List.forall_mem_cons.2 ⟨fun _ => ⟨rfl, rfl, rfl⟩,
  List.forall_mem_cons.2 ⟨fun _ => ⟨rfl, rfl, rfl⟩,
  List.forall_mem_nil _⟩⟩⟩⟩⟩⟩⟩⟩
theorem opcodeRows4x_faithful : ∀ r ∈ opcodeRows4x, BuildFaithful (BitVec.ofNat 8 r.opcode) r.build :=
  List.forall_mem_cons.2 ⟨⟨rfl, rfl, rfl⟩,
  List.forall_mem_cons.2 ⟨fun _ => ⟨rfl, rfl, rfl⟩,
  List.forall_mem_cons.2 ⟨fun _ => ⟨rfl, rfl, rfl⟩,
  List.forall_mem_cons.2 ⟨fun _ => ⟨rfl, rfl, rfl⟩,
  List.forall_mem_cons.2 ⟨⟨rfl, rfl, rfl⟩,
  List.forall_mem_cons.2 ⟨fun _ => ⟨rfl, rfl, rfl⟩,
  List.forall_mem_cons.2 ⟨⟨rfl, rfl, rfl⟩,
  List.forall_mem_cons.2 ⟨fun _ => ⟨rfl, rfl, rfl⟩,
  List.forall_mem_cons.2 ⟨fun _ => ⟨rfl, rfl, rfl⟩,
  List.forall_mem_cons.2 ⟨fun _ => ⟨rfl, rfl, rfl⟩,
  List.forall_mem_nil _⟩⟩⟩⟩⟩⟩⟩⟩⟩⟩
theorem opcodeRows5x_faithful : ∀ r ∈ opcodeRows5x, BuildFaithful (BitVec.ofNat 8 r.opcode) r.build :=
  List.forall_mem_cons.2 ⟨fun _ => ⟨rfl, rfl, rfl⟩,
  List.forall_mem_cons.2 ⟨fun _ => ⟨rfl, rfl, rfl⟩,
  List.forall_mem_cons.2 ⟨fun _ => ⟨rfl, rfl, rfl⟩,
  List.forall_mem_cons.2 ⟨fun _ => ⟨rfl, rfl, rfl⟩,
  List.forall_mem_cons.2 ⟨⟨rfl, rfl, rfl⟩,
  List.forall_mem_cons.2 ⟨fun _ => ⟨rfl, rfl, rfl⟩,
  List.forall_mem_cons.2 ⟨fun _ => ⟨rfl, rfl, rfl⟩,
  List.forall_mem_cons.2 ⟨fun _ => ⟨rfl, rfl, rfl⟩,
  List.forall_mem_nil _⟩⟩⟩⟩⟩⟩⟩⟩
theorem opcodeRows6x_faithful : ∀ r ∈ opcodeRows6x, BuildFaithful (BitVec.ofNat 8 r.opcode) r.build :=
  List.forall_mem_cons.2 ⟨⟨rfl, rfl, rfl⟩,
  List.forall_mem_cons.2 ⟨fun _ => ⟨rfl, rfl, rfl⟩,
  List.forall_mem_cons.2 ⟨fun _ => ⟨rfl, rfl, rfl⟩,
  List.forall_mem_cons.2 ⟨fun _ => ⟨rfl, rfl, rfl⟩,
  List.forall_mem_cons.2 ⟨⟨rfl, rfl, rfl⟩,
  List.forall_mem_cons.2 ⟨fun _ => ⟨rfl, rfl, rfl⟩,
  List.forall_mem_cons.2 ⟨⟨rfl, rfl, rfl⟩,
  List.forall_mem_cons.2 ⟨fun _ => ⟨rfl, rfl, rfl⟩,
  List.forall_mem_cons.2 ⟨fun _ => ⟨rfl, rfl, rfl⟩,
  List.forall_mem_cons.2 ⟨fun _ => ⟨rfl, rfl, rfl⟩,
  List.forall_mem_nil _⟩⟩⟩⟩⟩⟩⟩⟩⟩⟩
theorem opcodeRows7x_faithful : ∀ r ∈ opcodeRows7x, BuildFaithful (BitVec.ofNat 8 r.opcode) r.build :=
  List.forall_mem_cons.2 ⟨fun _ => ⟨rfl, rfl, rfl⟩,
  List.forall_mem_cons.2 ⟨fun _ => ⟨rfl, rfl, rfl⟩,
  List.forall_mem_cons.2 ⟨fun _ => ⟨rfl, rfl, rfl⟩,
  List.forall_mem_cons.2 ⟨fun _ => ⟨rfl, rfl, rfl⟩,
  List.forall_mem_cons.2 ⟨⟨rfl, rfl, rfl⟩,
  List.forall_mem_cons.2 ⟨fun _ => ⟨rfl, rfl, rfl⟩,
  List.forall_mem_cons.2 ⟨fun _ => ⟨rfl, rfl, rfl⟩,
  List.forall_mem_cons.2 ⟨fun _ => ⟨rfl, rfl, rfl⟩,
  List.forall_mem_nil _⟩⟩⟩⟩⟩⟩⟩⟩
theorem opcodeRows8x_faithful : ∀ r ∈ opcodeRows8x, BuildFaithful (BitVec.ofNat 8 r.opcode) r.build :=
  List.forall_mem_cons.2 ⟨fun _ => ⟨rfl, rfl, rfl⟩,
  List.forall_mem_cons.2 ⟨fun _ => ⟨rfl, rfl, rfl⟩,
  List.forall_mem_cons.2 ⟨fun _ => ⟨rfl, rfl, rfl⟩,
  List.forall_mem_cons.2 ⟨fun _ => ⟨rfl, rfl, rfl⟩,
  List.forall_mem_cons.2 ⟨⟨rfl, rfl, rfl⟩,
  List.forall_mem_cons.2 ⟨⟨rfl, rfl, rfl⟩,
  List.forall_mem_cons.2 ⟨fun _ => ⟨rfl, rfl, rfl⟩,
  List.forall_mem_cons.2 ⟨fun _ => ⟨rfl, rfl, rfl⟩,
  List.forall_mem_cons.2 ⟨fun _ => ⟨rfl, rfl, rfl⟩,
  List.forall_mem_nil _⟩⟩⟩⟩⟩⟩⟩⟩⟩
theorem opcodeRows9x_faithful : ∀ r ∈ opcodeRows9x, BuildFaithful (BitVec.ofNat 8 r.opcode) r.build :=
  List.forall_mem_cons.2 ⟨fun _ => ⟨rfl, rfl, rfl⟩,
  List.forall_mem_cons.2 ⟨fun _ => ⟨rfl, rfl, rfl⟩,
  List.forall_mem_cons.2 ⟨fun _ => ⟨rfl, rfl, rfl⟩,
  List.forall_mem_cons.2 ⟨fun _ => ⟨rfl, rfl, rfl⟩,
  List.forall_mem_cons.2 ⟨fun _ => ⟨rfl, rfl, rfl⟩,
  List.forall_mem_cons.2 ⟨⟨rfl, rfl, rfl⟩,
  List.forall_mem_cons.2 ⟨fun _ => ⟨rfl, rfl, rfl⟩,
  List.forall_mem_cons.2 ⟨⟨rfl, rfl, rfl⟩,
  List.forall_mem_cons.2 ⟨fun _ => ⟨rfl, rfl, rfl⟩,
  List.forall_mem_nil _⟩⟩⟩⟩⟩⟩⟩⟩⟩
theorem opcodeRowsAx_faithful : ∀ r ∈ opcodeRowsAx, BuildFaithful (BitVec.ofNat 8 r.opcode) r.build :=
  List.forall_mem_cons.2 ⟨fun _ => ⟨rfl, rfl, rfl⟩,
  List.forall_mem_cons.2 ⟨fun _ => ⟨rfl, rfl, rfl⟩,
  List.forall_mem_cons.2 ⟨fun _ => ⟨rfl, rfl, rfl⟩,
  List.forall_mem_cons.2 ⟨fun _ => ⟨rfl, rfl, rfl⟩,
  List.forall_mem_cons.2 ⟨fun _ => ⟨rfl, rfl, rfl⟩,
  List.forall_mem_cons.2 ⟨fun _ => ⟨rfl, rfl, rfl⟩,
  List.forall_mem_cons.2 ⟨⟨rfl, rfl, rfl⟩,
  List.forall_mem_cons.2 ⟨fun _ => ⟨rfl, rfl, rfl⟩,
  List.forall_mem_cons.2 ⟨⟨rfl, rfl, rfl⟩,
  List.forall_mem_cons.2 ⟨fun _ => ⟨rfl, rfl, rfl⟩,
  List.forall_mem_cons.2 ⟨fun _ => ⟨rfl, rfl, rfl⟩,
  List.forall_mem_cons.2 ⟨fun _ => ⟨rfl, rfl, rfl⟩,
  List.forall_mem_nil _⟩⟩⟩⟩⟩⟩⟩⟩⟩⟩⟩⟩
theorem opcodeRowsBx_faithful : ∀ r ∈ opcodeRowsBx, BuildFaithful (BitVec.ofNat 8 r.opcode) r.build :=
  List.forall_mem_cons.2 ⟨fun _ => ⟨rfl, rfl, rfl⟩,
  List.forall_mem_cons.2 ⟨fun _ => ⟨rfl, rfl, rfl⟩,
  List.forall_mem_cons.2 ⟨fun _ => ⟨rfl, rfl, rfl⟩,
  List.forall_mem_cons.2 ⟨fun _ => ⟨rfl, rfl, rfl⟩,
  List.forall_mem_cons.2 ⟨fun _ => ⟨rfl, rfl, rfl⟩,
  List.forall_mem_cons.2 ⟨⟨rfl, rfl, rfl⟩,
  List.forall_mem_cons.2 ⟨fun _ => ⟨rfl, rfl, rfl⟩,
  List.forall_mem_cons.2 ⟨⟨rfl, rfl, rfl⟩,
  List.forall_mem_cons.2 ⟨fun _ => ⟨rfl, rfl, rfl⟩,
  List.forall_mem_cons.2 ⟨fun _ => ⟨rfl, rfl, rfl⟩,
  List.forall_mem_cons.2 ⟨fun _ => ⟨rfl, rfl, rfl⟩,
  List.forall_mem_nil _⟩⟩⟩⟩⟩⟩⟩⟩⟩⟩⟩
theorem opcodeRowsCx_faithful : ∀ r ∈ opcodeRowsCx, BuildFaithful (BitVec.ofNat 8 r.opcode) r.build :=
  List.forall_mem_cons.2 ⟨fun _ => ⟨rfl, rfl, rfl⟩,
  List.forall_mem_cons.2 ⟨fun _ => ⟨rfl, rfl, rfl⟩,
  List.forall_mem_cons.2 ⟨fun _ => ⟨rfl, rfl, rfl⟩,
  List.forall_mem_cons.2 ⟨fun _ => ⟨rfl, rfl, rfl⟩,
  List.forall_mem_cons.2 ⟨fun _ => ⟨rfl, rfl, rfl⟩,
  List.forall_mem_cons.2 ⟨⟨rfl, rfl, rfl⟩,
  List.forall_mem_cons.2 ⟨fun _ => ⟨rfl, rfl, rfl⟩,
  List.forall_mem_cons.2 ⟨⟨rfl, rfl, rfl⟩,
  List.forall_mem_cons.2 ⟨fun _ => ⟨rfl, rfl, rfl⟩,
  List.forall_mem_cons.2 ⟨fun _ => ⟨rfl, rfl, rfl⟩,
  List.forall_mem_cons.2 ⟨fun _ => ⟨rfl, rfl, rfl⟩,
  List.forall_mem_nil _⟩⟩⟩⟩⟩⟩⟩⟩⟩⟩⟩
theorem opcodeRowsDx_faithful : ∀ r ∈ opcodeRowsDx, BuildFaithful (BitVec.ofNat 8 r.opcode) r.build :=
  List.forall_mem_cons.2 ⟨fun _ => ⟨rfl, rfl, rfl⟩,
  List.forall_mem_cons.2 ⟨fun _ => ⟨rfl, rfl, rfl⟩,
  List.forall_mem_cons.2 ⟨fun _ => ⟨rfl, rfl, rfl⟩,
  List.forall_mem_cons.2 ⟨fun _ => ⟨rfl, rfl, rfl⟩,
  List.forall_mem_cons.2 ⟨⟨rfl, rfl, rfl⟩,
  List.forall_mem_cons.2 ⟨fun _ => ⟨rfl, rfl, rfl⟩,
  List.forall_mem_cons.2 ⟨fun _ => ⟨rfl, rfl, rfl⟩,
  List.forall_mem_cons.2 ⟨fun _ => ⟨rfl, rfl, rfl⟩,
  List.forall_mem_nil _⟩⟩⟩⟩⟩⟩⟩⟩
theorem opcodeRowsEx_faithful : ∀ r ∈ opcodeRowsEx, BuildFaithful (BitVec.ofNat 8 r.opcode) r.build :=
  List.forall_mem_cons.2 ⟨fun _ => ⟨rfl, rfl, rfl⟩,
  List.forall_mem_cons.2 ⟨fun _ => ⟨rfl, rfl, rfl⟩,
  List.forall_mem_cons.2 ⟨fun _ => ⟨rfl, rfl, rfl⟩,
  List.forall_mem_cons.2 ⟨fun _ => ⟨rfl, rfl, rfl⟩,
  List.forall_mem_cons.2 ⟨fun _ => ⟨rfl, rfl, rfl⟩,
  List.forall_mem_cons.2 ⟨⟨rfl, rfl, rfl⟩,
  List.forall_mem_cons.2 ⟨fun _ => ⟨rfl, rfl, rfl⟩,
  List.forall_mem_cons.2 ⟨⟨rfl, rfl, rfl⟩,
  List.forall_mem_cons.2 ⟨fun _ => ⟨rfl, rfl, rfl⟩,
  List.forall_mem_cons.2 ⟨fun _ => ⟨rfl, rfl, rfl⟩,
  List.forall_mem_cons.2 ⟨fun _ => ⟨rfl, rfl, rfl⟩,
  List.forall_mem_nil _⟩⟩⟩⟩⟩⟩⟩⟩⟩⟩⟩
theorem opcodeRowsFx_faithful : ∀ r ∈ opcodeRowsFx, BuildFaithful (BitVec.ofNat 8 r.opcode) r.build :=
  List.forall_mem_cons.2 ⟨fun _ => ⟨rfl, rfl, rfl⟩,
  List.forall_mem_cons.2 ⟨fun _ => ⟨rfl, rfl, rfl⟩,
  List.forall_mem_cons.2 ⟨fun _ => ⟨rfl, rfl, rfl⟩,
  List.forall_mem_cons.2 ⟨fun _ => ⟨rfl, rfl, rfl⟩,
  List.forall_mem_cons.2 ⟨⟨rfl, rfl, rfl⟩,
  List.forall_mem_cons.2 ⟨fun _ => ⟨rfl, rfl, rfl⟩,
  List.forall_mem_cons.2 ⟨fun _ => ⟨rfl, rfl, rfl⟩,
  List.forall_mem_cons.2 ⟨fun _ => ⟨rfl, rfl, rfl⟩,
  List.forall_mem_nil _⟩⟩⟩⟩⟩⟩⟩⟩

theorem findRow_some {rows : List Row} {op : Nat} {r : Row} (h : findRow rows op = some r) :
    r ∈ rows ∧ r.opcode = op := by
  induction rows with
  | nil => simp [findRow] at h
  | cons q rest ih =>
    rw [findRow] at h
    split at h
    · next e => cases h; exact ⟨List.mem_cons_self, e⟩
    · exact ⟨List.mem_cons_of_mem _ (ih h).1, (ih h).2⟩

/-- An opcode with no documented row is one R163 lists. -/
theorem unimplemented_of_rowOf : ∀ op : Byte, (rowOf op).isNone = true → isUnimplemented op = true := by decide +kernel

theorem buildOf_faithful (op : Byte) : BuildFaithful op (buildOf op) := by
  rw [buildOf]
  split
  · next r h =>
    obtain ⟨mem, e⟩ := findRow_some h
    have key : BuildFaithful (BitVec.ofNat 8 r.opcode) r.build := by
      simp only [opcodeTable, List.mem_append] at mem
      rcases mem with ((((((((((((((h | h) | h) | h) | h) | h) | h) | h) | h) | h) | h) | h) | h) | h) | h) | h
      exacts [opcodeRows0x_faithful r h, opcodeRows1x_faithful r h, opcodeRows2x_faithful r h, opcodeRows3x_faithful r h, opcodeRows4x_faithful r h, opcodeRows5x_faithful r h, opcodeRows6x_faithful r h, opcodeRows7x_faithful r h, opcodeRows8x_faithful r h, opcodeRows9x_faithful r h, opcodeRowsAx_faithful r h, opcodeRowsBx_faithful r h, opcodeRowsCx_faithful r h, opcodeRowsDx_faithful r h, opcodeRowsEx_faithful r h, opcodeRowsFx_faithful r h]
    rwa [e, BitVec.ofNat_toNat, BitVec.setWidth_eq] at key
  · next h => exact ⟨unimplemented_of_rowOf op (by rw [h]; rfl), rfl, rfl⟩

end Sys2Proof
end

