-- ==== Sys2Proof/Laws/Step.lean ====
section
/-! SUPPORT. What a fetch, an interrupt sequence and a step can do, said once; what a step returns and traces. -/

namespace Sys2Proof.Machine

/-- Nothing is pending exactly where the next step executes an instruction, given a bus and no fault. -/
theorem pendingInterrupt_eq_none (s : State) :
    pendingInterrupt s = none ↔ s.nmiLatch = false ∧ (s.irqLine = false ∨ s.iPoll = true) := by
  cases hn : s.nmiLatch <;> cases hi : s.irqLine <;> cases hp : s.iPoll <;> simp [pendingInterrupt, hn, hi, hp]

/-- A state that executes: its step is `exec` of the instruction at PC. -/
theorem step_of_executes {s : State} (h : s.Executes) : step s = exec (fetchInstr s).instr (fetchInstr s).state := by
  obtain ⟨ha, hf, hp⟩ := h
  simp [step, ha, hf, (pendingInterrupt_eq_none s).2 hp]

/-- A step that answers a next state executed the instruction at PC, or serviced the pending interrupt. -/
theorem step_cases {s t : State} (h : step s = .next t) :
    (s.Executes ∧ exec (fetchInstr s).instr (fetchInstr s).state = .next t) ∨
    (s.busAttached = true ∧ s.fault = none ∧
      ∃ kind, pendingInterrupt s = some kind ∧ interruptSequence kind s = .next t) := by
  rw [step] at h
  split at h
  · next ha =>
    split at h
    · cases h
    · next hf =>
      split at h
      · next kind hp => exact .inr ⟨ha, hf, kind, hp, h⟩
      · next hp => exact .inl ⟨⟨ha, hf, (pendingInterrupt_eq_none s).1 hp⟩, h⟩
  · cases h

/-- A fetch moves PC by one and takes the bus on; memory, the address decode and the policy stay. -/
theorem fetchByte_eq (s : State) : ∃ b : Bus, (fetchByte s).state = { s with pc := s.pc + 1#16, bus := b } ∧
    b.mem = s.bus.mem ∧ b.map = s.bus.map ∧ b.openBus = s.bus.openBus :=
  ⟨(s.bus.read s.pc).2, rfl, by simp, by simp, by simp⟩

/-- Fetching an instruction moves PC past its bytes and takes the bus on; nothing else changes. -/
theorem fetchInstr_eq (s : State) : ∃ (n : Nat) (b : Bus),
    (fetchInstr s).state = { s with pc := s.pc + BitVec.ofNat 16 n, bus := b } ∧
    b.mem = s.bus.mem ∧ b.map = s.bus.map ∧ b.openBus = s.bus.openBus := by
  obtain ⟨b1, h1, m1, p1, o1⟩ := fetchByte_eq s
  obtain ⟨b2, h2, m2, p2, o2⟩ := fetchByte_eq (fetchByte s).state
  obtain ⟨b3, h3, m3, p3, o3⟩ := fetchByte_eq (fetchByte (fetchByte s).state).state
  simp only [h1] at h2 m2 p2 o2 h3 m3 p3 o3
  simp only [h2] at h3 m3 p3 o3
  unfold fetchInstr
  simp only []
  split
  · exact ⟨1, b1, h1, m1, p1, o1⟩
  · refine ⟨2, b2, ?_, m2.trans m1, p2.trans p1, o2.trans o1⟩
    simp only [h1, h2, BitVec.add_assoc]
    rfl
  · refine ⟨3, b3, ?_, m3.trans (m2.trans m1), p3.trans (p2.trans p1), o3.trans (o2.trans o1)⟩
    rw [h1, h2, h3]
    simp only [BitVec.add_assoc]
    rfl

/-- An interrupt sequence always answers a next state: the exception entry, NMI's latch cleared, 7 cycles and the stalls. -/
theorem interruptSequence_eq (kind : InterruptKind) (s : State) : ∃ w : Written,
    w = takeException false (match kind with | .nmi => nmiVector | .irq => irqVector) s ∧
    interruptSequence kind s = .next ((((match kind with
      | .nmi => w.state.setNmi false
      | .irq => w.state).addCycles (7 + w.stall)).setIPoll true)) := by
  cases kind <;> exact ⟨_, rfl, by simp [interruptSequence, finish_eq]⟩

/-- A step's returned count is what it adds to CYC, unless it records the fault. -/
theorem stepCycles_of_next {s t : State} (h : step s = .next t) :
    stepCycles s = if t.fault.isSome then none else some (t.cyc - s.cyc) := by
  simp [stepCycles, h]

/-- A step with no transition returns no count. -/
theorem stepCycles_of_no_step {s : State} (h : s.busAttached = false ∨ s.fault ≠ none) : stepCycles s = none := by
  cases ha : s.busAttached
  · simp [stepCycles, step, ha]
  · obtain ⟨f, hf⟩ := Option.ne_none_iff_exists'.1 (h.resolve_left (by simp [ha]))
    simp [stepCycles, step, ha, hf]

/-- The trace lines of a run: that of its first step, if it has one, and then those from the state the step gives. -/
theorem traceLog_of_next {layout : TraceLayout} {fuel : Nat} {s t : State} (h : step s = .next t) :
    traceLog layout (fuel + 1) s = (traceLine layout s).toList ++ traceLog layout fuel t := by
  simp [traceLog, h]

/-- Placing bytes keeps the canonical form of memory. -/
theorem placeBytes_wf : ∀ (bytes : List Byte) (m : Memory) (a : Word), m.wf = true → (placeBytes m a bytes).wf = true
  | [], _, _, h => h
  | b :: rest, _, a, h => placeBytes_wf rest _ _ (Memory.write_wf h a.isLt b)

/-- The memory of the state right after reset is in canonical form. -/
theorem State.reset_mem_wf : State.reset.bus.mem.wf = true := rfl

end Sys2Proof.Machine
end

