-- ==== Sys2Proof/Tests/Slice0.lean ====
section
/-! SUPPORT. The model's own tests. The decode tests write out a word of every constructor from 30_encoding.md R170 and R140.
The step tests are vectors of 95_test_vectors.md, whose expected end states the spec gives. The witnesses show, for every
statement of Certificates/Slice0/Obligations.lean with hypotheses, a concrete case that meets all of them. -/

set_option Elab.async false

namespace Sys2Proof.Tests

open Sys2Proof.Machine

/-! ## Helpers -/

/-- A memory that holds the given bytes and nothing else. -/
def memoryOf (cells : List (Nat × Byte)) : Memory := cells.foldl (fun m c => m.write c.1 c.2) []

/-- Bytes at successive addresses. -/
def bytesAt : Nat → List Byte → List (Nat × Byte)
  | _, [] => []
  | a, b :: rest => (a % 0x10000, b) :: bytesAt (a + 1) rest

/-- A start state of the spec's vectors (95_test_vectors.md, Conventions): the flat bus, packed status `p`, `i_poll` equal
to the starting I, CYC = 0, no request, no fault. -/
def start (pc : Word) (a x y sp p : Byte) (cells : List (Nat × Byte)) : State :=
  { State.reset with
    a := a, x := x, y := y, sp := sp, pc := pc, p := unpack p State.reset.p, cyc := 0, iPoll := p.getLsbD 2
    bus := { Bus.flat with mem := memoryOf cells } }

/-- Whether a result is a next state of which `q` holds. -/
def nextHolds (r : Result) (q : State → Bool) : Bool :=
  match r with
  | .next t => q t
  | .fault _ | .refused _ => false

/-- Whether a state has these registers, this packed status and CYC, no fault, and exactly these bytes in memory. -/
def looks (pc : Word) (a x y sp p : Byte) (cyc : Nat) (cells : List (Nat × Byte)) (t : State) : Bool :=
  decide (t.pc = pc ∧ t.a = a ∧ t.x = x ∧ t.y = y ∧ t.sp = sp ∧ t.status = p ∧ t.cyc = cyc ∧ t.fault = none ∧
    t.bus.mem = memoryOf cells)

/-- Whether every list of bytes decodes to the instruction beside it, with nothing left over. -/
def decodesTo (words : List (List Byte × Instr)) : Bool :=
  words.all fun w =>
    match decode w.1 with
    | .ok (i, []) => decide (i = w.2)
    | _ => false

theorem next_of_nextHolds {r : Result} {q : State → Bool} (h : nextHolds r q = true) : ∃ t, r = .next t ∧ q t = true := by
  cases r with
  | next t => exact ⟨t, rfl, h⟩
  | fault f => cases h
  | refused f => cases h

/-! ## Well-formedness -/

/-- The one check of WellFormed refuses an `unimplemented` that carries the opcode of a documented row. -/
theorem test_wellFormed_refuses : (Instr.unimplemented 0xA9).wellFormed = false ∧ (Instr.unimplemented 0x00).wellFormed = false := by
  decide

theorem test_wellFormed_accepts : (Instr.unimplemented 0x02).wellFormed = true ∧ (Instr.unimplemented 0xFF).wellFormed = true := by
  decide

/-! ## Decoding: a word of every row, from the opcode and operand columns of R170 -/

theorem test_decode_loads : decodesTo
    [([0xA9, 0x9A], .ldaImm 0x9A), ([0xA5, 0x9A], .ldaZp 0x9A), ([0xB5, 0x9A], .ldaZpx 0x9A),
     ([0xAD, 0x34, 0x92], .ldaAbs 0x9234), ([0xBD, 0x34, 0x92], .ldaAbsx 0x9234),
     ([0xB9, 0x34, 0x92], .ldaAbsy 0x9234), ([0xA1, 0x9A], .ldaIndx 0x9A), ([0xB1, 0x9A], .ldaIndy 0x9A),
     ([0xA2, 0x9A], .ldxImm 0x9A), ([0xA6, 0x9A], .ldxZp 0x9A), ([0xB6, 0x9A], .ldxZpy 0x9A),
     ([0xAE, 0x34, 0x92], .ldxAbs 0x9234), ([0xBE, 0x34, 0x92], .ldxAbsy 0x9234), ([0xA0, 0x9A], .ldyImm 0x9A),
     ([0xA4, 0x9A], .ldyZp 0x9A), ([0xB4, 0x9A], .ldyZpx 0x9A), ([0xAC, 0x34, 0x92], .ldyAbs 0x9234),
     ([0xBC, 0x34, 0x92], .ldyAbsx 0x9234)] = true := by decide +kernel

theorem test_decode_stores : decodesTo
    [([0x85, 0x9A], .staZp 0x9A), ([0x95, 0x9A], .staZpx 0x9A), ([0x8D, 0x34, 0x92], .staAbs 0x9234),
     ([0x9D, 0x34, 0x92], .staAbsx 0x9234), ([0x99, 0x34, 0x92], .staAbsy 0x9234), ([0x81, 0x9A], .staIndx 0x9A),
     ([0x91, 0x9A], .staIndy 0x9A), ([0x86, 0x9A], .stxZp 0x9A), ([0x96, 0x9A], .stxZpy 0x9A),
     ([0x8E, 0x34, 0x92], .stxAbs 0x9234), ([0x84, 0x9A], .styZp 0x9A), ([0x94, 0x9A], .styZpx 0x9A),
     ([0x8C, 0x34, 0x92], .styAbs 0x9234)] = true := by decide +kernel

theorem test_decode_transfers : decodesTo
    [([0xAA], .tax), ([0xA8], .tay), ([0xBA], .tsx), ([0x8A], .txa), ([0x9A], .txs), ([0x98], .tya)] = true := by decide +kernel

theorem test_decode_arithmetic : decodesTo
    [([0x69, 0x9A], .adcImm 0x9A), ([0x65, 0x9A], .adcZp 0x9A), ([0x75, 0x9A], .adcZpx 0x9A),
     ([0x6D, 0x34, 0x92], .adcAbs 0x9234), ([0x7D, 0x34, 0x92], .adcAbsx 0x9234),
     ([0x79, 0x34, 0x92], .adcAbsy 0x9234), ([0x61, 0x9A], .adcIndx 0x9A), ([0x71, 0x9A], .adcIndy 0x9A),
     ([0xE9, 0x9A], .sbcImm 0x9A), ([0xE5, 0x9A], .sbcZp 0x9A), ([0xF5, 0x9A], .sbcZpx 0x9A),
     ([0xED, 0x34, 0x92], .sbcAbs 0x9234), ([0xFD, 0x34, 0x92], .sbcAbsx 0x9234),
     ([0xF9, 0x34, 0x92], .sbcAbsy 0x9234), ([0xE1, 0x9A], .sbcIndx 0x9A), ([0xF1, 0x9A], .sbcIndy 0x9A)] = true := by decide +kernel

theorem test_decode_logical : decodesTo
    [([0x29, 0x9A], .andImm 0x9A), ([0x25, 0x9A], .andZp 0x9A), ([0x35, 0x9A], .andZpx 0x9A),
     ([0x2D, 0x34, 0x92], .andAbs 0x9234), ([0x3D, 0x34, 0x92], .andAbsx 0x9234),
     ([0x39, 0x34, 0x92], .andAbsy 0x9234), ([0x21, 0x9A], .andIndx 0x9A), ([0x31, 0x9A], .andIndy 0x9A),
     ([0x09, 0x9A], .oraImm 0x9A), ([0x05, 0x9A], .oraZp 0x9A), ([0x15, 0x9A], .oraZpx 0x9A),
     ([0x0D, 0x34, 0x92], .oraAbs 0x9234), ([0x1D, 0x34, 0x92], .oraAbsx 0x9234),
     ([0x19, 0x34, 0x92], .oraAbsy 0x9234), ([0x01, 0x9A], .oraIndx 0x9A), ([0x11, 0x9A], .oraIndy 0x9A),
     ([0x49, 0x9A], .eorImm 0x9A), ([0x45, 0x9A], .eorZp 0x9A), ([0x55, 0x9A], .eorZpx 0x9A),
     ([0x4D, 0x34, 0x92], .eorAbs 0x9234), ([0x5D, 0x34, 0x92], .eorAbsx 0x9234),
     ([0x59, 0x34, 0x92], .eorAbsy 0x9234), ([0x41, 0x9A], .eorIndx 0x9A), ([0x51, 0x9A], .eorIndy 0x9A),
     ([0x24, 0x9A], .bitZp 0x9A), ([0x2C, 0x34, 0x92], .bitAbs 0x9234)] = true := by decide +kernel

theorem test_decode_compare : decodesTo
    [([0xC9, 0x9A], .cmpImm 0x9A), ([0xC5, 0x9A], .cmpZp 0x9A), ([0xD5, 0x9A], .cmpZpx 0x9A),
     ([0xCD, 0x34, 0x92], .cmpAbs 0x9234), ([0xDD, 0x34, 0x92], .cmpAbsx 0x9234),
     ([0xD9, 0x34, 0x92], .cmpAbsy 0x9234), ([0xC1, 0x9A], .cmpIndx 0x9A), ([0xD1, 0x9A], .cmpIndy 0x9A),
     ([0xE0, 0x9A], .cpxImm 0x9A), ([0xE4, 0x9A], .cpxZp 0x9A), ([0xEC, 0x34, 0x92], .cpxAbs 0x9234),
     ([0xC0, 0x9A], .cpyImm 0x9A), ([0xC4, 0x9A], .cpyZp 0x9A), ([0xCC, 0x34, 0x92], .cpyAbs 0x9234)] = true := by decide +kernel

theorem test_decode_incDec : decodesTo
    [([0xE6, 0x9A], .incZp 0x9A), ([0xF6, 0x9A], .incZpx 0x9A), ([0xEE, 0x34, 0x92], .incAbs 0x9234),
     ([0xFE, 0x34, 0x92], .incAbsx 0x9234), ([0xC6, 0x9A], .decZp 0x9A), ([0xD6, 0x9A], .decZpx 0x9A),
     ([0xCE, 0x34, 0x92], .decAbs 0x9234), ([0xDE, 0x34, 0x92], .decAbsx 0x9234), ([0xE8], .inx), ([0xC8], .iny),
     ([0xCA], .dex), ([0x88], .dey)] = true := by decide +kernel

theorem test_decode_shifts : decodesTo
    [([0x0A], .aslAcc), ([0x06, 0x9A], .aslZp 0x9A), ([0x16, 0x9A], .aslZpx 0x9A),
     ([0x0E, 0x34, 0x92], .aslAbs 0x9234), ([0x1E, 0x34, 0x92], .aslAbsx 0x9234), ([0x4A], .lsrAcc),
     ([0x46, 0x9A], .lsrZp 0x9A), ([0x56, 0x9A], .lsrZpx 0x9A), ([0x4E, 0x34, 0x92], .lsrAbs 0x9234),
     ([0x5E, 0x34, 0x92], .lsrAbsx 0x9234), ([0x2A], .rolAcc), ([0x26, 0x9A], .rolZp 0x9A),
     ([0x36, 0x9A], .rolZpx 0x9A), ([0x2E, 0x34, 0x92], .rolAbs 0x9234), ([0x3E, 0x34, 0x92], .rolAbsx 0x9234),
     ([0x6A], .rorAcc), ([0x66, 0x9A], .rorZp 0x9A), ([0x76, 0x9A], .rorZpx 0x9A),
     ([0x6E, 0x34, 0x92], .rorAbs 0x9234), ([0x7E, 0x34, 0x92], .rorAbsx 0x9234)] = true := by decide +kernel

theorem test_decode_branches : decodesTo
    [([0x90, 0x9A], .bcc 0x9A), ([0xB0, 0x9A], .bcs 0x9A), ([0xF0, 0x9A], .beq 0x9A), ([0x30, 0x9A], .bmi 0x9A),
     ([0xD0, 0x9A], .bne 0x9A), ([0x10, 0x9A], .bpl 0x9A), ([0x50, 0x9A], .bvc 0x9A), ([0x70, 0x9A], .bvs 0x9A)] = true := by decide +kernel

theorem test_decode_jumps : decodesTo
    [([0x4C, 0x34, 0x92], .jmpAbs 0x9234), ([0x6C, 0x34, 0x92], .jmpInd 0x9234), ([0x20, 0x9A], .jsr 0x9A),
     ([0x60], .rts)] = true := by decide +kernel

theorem test_decode_stack : decodesTo
    [([0x48], .pha), ([0x08], .php), ([0x68], .pla), ([0x28], .plp)] = true := by decide +kernel

theorem test_decode_flags_system : decodesTo
    [([0x18], .clc), ([0xD8], .cld), ([0x58], .cli), ([0xB8], .clv), ([0x38], .sec), ([0xF8], .sed), ([0x78], .sei),
     ([0xEA], .nop), ([0x00], .brk), ([0x40], .rti)] = true := by decide +kernel

/-- R163: the 105 values are refused as documented instructions, each by its own opcode. -/
theorem test_decode_unimplemented : (unimplementedOpcodes.all fun n =>
    decodesTo [([BitVec.ofNat 8 n], .unimplemented (BitVec.ofNat 8 n))]) = true := by decide +kernel

theorem test_decode_rejects : decode [] = .error .noBytes ∧ decode [0xAD, 0x34] = .error (.truncated 0xAD) := ⟨rfl, rfl⟩

theorem test_encode : encode (.ldaAbsx 0x12FF) = [0xBD, 0xFF, 0x12] ∧ encode (.bne 0xFB) = [0xD0, 0xFB] ∧
    encode (.unimplemented 0xFF) = [0xFF] := by decide

theorem test_decodeTableWord : decodeTableWord 24 0x1234AD = some (.ldaAbs 0x1234) ∧ decodeTableWord 8 0xEA = some .nop ∧
    decodeTableWord 8 0xBD = some (.ldaAbsx 0x0000) := by decide +kernel

/-- On the reset state, placing an instruction changes memory at PC and nothing else. -/
theorem test_withFetchWord : State.reset.withFetchWord 8 0xEA =
    { State.reset with bus := { Bus.flat with mem := [(0x0000, 0xEA)] } } := by decide +kernel

theorem test_withFetchWord_runs : nextHolds (step (State.reset.withFetchWord 16 0x80A9))
    (looks 0x0002 0x80 0 0 0xFD 0xA4 9 [(0, 0xA9), (1, 0x80)]) = true := by decide +kernel

/-! ## One step of each mnemonic: vectors of 95_test_vectors.md -/

/-- V7 and V8. -/
theorem test_step_lda :
    nextHolds (step (start 0x0600 0x00 0x00 0x01 0xFD 0x20 (bytesAt 0x0600 [0xB9, 0xFF, 0xFF] ++ [(0x0000, 0x99)])))
      (looks 0x0603 0x99 0x00 0x01 0xFD 0xA0 5 (bytesAt 0x0600 [0xB9, 0xFF, 0xFF] ++ [(0x0000, 0x99)])) = true ∧
    nextHolds (step (start 0x0600 0x00 0x01 0x00 0xFD 0x20 (bytesAt 0x0600 [0xA1, 0xFE] ++ [(0x0000, 0x12), (0x00FF, 0x34), (0x1234, 0x56)])))
      (looks 0x0602 0x56 0x01 0x00 0xFD 0x20 6 (bytesAt 0x0600 [0xA1, 0xFE] ++ [(0x0000, 0x12), (0x00FF, 0x34), (0x1234, 0x56)])) = true := by decide +kernel

/-- V11 and V12. -/
theorem test_step_ldx :
    nextHolds (step (start 0x0600 0x00 0x00 0x20 0xFD 0x20 (bytesAt 0x0600 [0xB6, 0xF0] ++ [(0x0010, 0x00)])))
      (looks 0x0602 0x00 0x00 0x20 0xFD 0x22 4 (bytesAt 0x0600 [0xB6, 0xF0] ++ [(0x0010, 0x00)])) = true ∧
    nextHolds (step (start 0x0600 0x00 0x00 0x01 0xFD 0x20 (bytesAt 0x0600 [0xBE, 0xFF, 0x12] ++ [(0x1300, 0xFE)])))
      (looks 0x0603 0x00 0xFE 0x01 0xFD 0xA0 5 (bytesAt 0x0600 [0xBE, 0xFF, 0x12] ++ [(0x1300, 0xFE)])) = true := by decide +kernel

/-- V13. -/
theorem test_step_ldy :
    nextHolds (step (start 0x0600 0x00 0x01 0x00 0xFD 0x20 (bytesAt 0x0600 [0xBC, 0xFF, 0x12] ++ [(0x1300, 0x01)])))
      (looks 0x0603 0x00 0x01 0x01 0xFD 0x20 5 (bytesAt 0x0600 [0xBC, 0xFF, 0x12] ++ [(0x1300, 0x01)])) = true := by decide +kernel

/-- V14 and V16. -/
theorem test_step_sta :
    nextHolds (step (start 0x0600 0x77 0x01 0x00 0xFD 0x20 (bytesAt 0x0600 [0x9D, 0xFF, 0x12])))
      (looks 0x0603 0x77 0x01 0x00 0xFD 0x20 5 (bytesAt 0x0600 [0x9D, 0xFF, 0x12] ++ [(0x1300, 0x77)])) = true ∧
    nextHolds (step (start 0x0600 0x00 0x00 0x01 0xFD 0x20 (bytesAt 0x0600 [0x91, 0x10] ++ [(0x0010, 0xFF), (0x0011, 0x12)])))
      (looks 0x0602 0x00 0x00 0x01 0xFD 0x20 6 (bytesAt 0x0600 [0x91, 0x10] ++ [(0x0010, 0xFF), (0x0011, 0x12)] ++ [(0x1300, 0x00)])) = true := by decide +kernel

/-- V17. -/
theorem test_step_stx :
    nextHolds (step (start 0x0600 0x00 0xAB 0x02 0xFD 0x20 (bytesAt 0x0600 [0x96, 0xFF])))
      (looks 0x0602 0x00 0xAB 0x02 0xFD 0x20 4 (bytesAt 0x0600 [0x96, 0xFF] ++ [(0x0001, 0xAB)])) = true := by decide +kernel

/-- V18. -/
theorem test_step_sty :
    nextHolds (step (start 0x0600 0x00 0x02 0xCD 0xFD 0x20 (bytesAt 0x0600 [0x94, 0xFF])))
      (looks 0x0602 0x00 0x02 0xCD 0xFD 0x20 4 (bytesAt 0x0600 [0x94, 0xFF] ++ [(0x0001, 0xCD)])) = true := by decide +kernel

/-- V19. -/
theorem test_step_tax :
    nextHolds (step (start 0x0600 0x00 0x12 0x00 0xFD 0x20 (bytesAt 0x0600 [0xAA])))
      (looks 0x0601 0x00 0x00 0x00 0xFD 0x22 2 (bytesAt 0x0600 [0xAA])) = true := by decide +kernel

/-- V20. -/
theorem test_step_tay :
    nextHolds (step (start 0x0600 0x90 0x00 0x00 0xFD 0x20 (bytesAt 0x0600 [0xA8])))
      (looks 0x0601 0x90 0x00 0x90 0xFD 0xA0 2 (bytesAt 0x0600 [0xA8])) = true := by decide +kernel

/-- V21. -/
theorem test_step_tsx :
    nextHolds (step (start 0x0600 0x00 0x00 0x00 0xFD 0x20 (bytesAt 0x0600 [0xBA])))
      (looks 0x0601 0x00 0xFD 0x00 0xFD 0xA0 2 (bytesAt 0x0600 [0xBA])) = true := by decide +kernel

/-- V22. -/
theorem test_step_txa :
    nextHolds (step (start 0x0600 0x11 0x00 0x00 0xFD 0x20 (bytesAt 0x0600 [0x8A])))
      (looks 0x0601 0x00 0x00 0x00 0xFD 0x22 2 (bytesAt 0x0600 [0x8A])) = true := by decide +kernel

/-- V23. -/
theorem test_step_txs :
    nextHolds (step (start 0x0600 0x00 0x00 0x00 0xFD 0x20 (bytesAt 0x0600 [0x9A])))
      (looks 0x0601 0x00 0x00 0x00 0x00 0x20 2 (bytesAt 0x0600 [0x9A])) = true := by decide +kernel

/-- V24. -/
theorem test_step_tya :
    nextHolds (step (start 0x0600 0x00 0x00 0x7F 0xFD 0x20 (bytesAt 0x0600 [0x98])))
      (looks 0x0601 0x7F 0x00 0x7F 0xFD 0x20 2 (bytesAt 0x0600 [0x98])) = true := by decide +kernel

/-- V25 and V31. -/
theorem test_step_adc :
    nextHolds (step (start 0x0600 0x50 0x00 0x00 0xFD 0x20 (bytesAt 0x0600 [0x69, 0x50])))
      (looks 0x0602 0xA0 0x00 0x00 0xFD 0xE0 2 (bytesAt 0x0600 [0x69, 0x50])) = true ∧
    nextHolds (step (start 0x0600 0x01 0x01 0x00 0xFD 0x20 (bytesAt 0x0600 [0x7D, 0xFF, 0x12] ++ [(0x1300, 0x01)])))
      (looks 0x0603 0x02 0x01 0x00 0xFD 0x20 5 (bytesAt 0x0600 [0x7D, 0xFF, 0x12] ++ [(0x1300, 0x01)])) = true := by decide +kernel

/-- V34 and V36. -/
theorem test_step_sbc :
    nextHolds (step (start 0x0600 0x80 0x00 0x00 0xFD 0x21 (bytesAt 0x0600 [0xE9, 0x01])))
      (looks 0x0602 0x7F 0x00 0x00 0xFD 0x61 2 (bytesAt 0x0600 [0xE9, 0x01])) = true ∧
    nextHolds (step (start 0x0600 0x05 0x00 0x00 0xFD 0x20 (bytesAt 0x0600 [0xE9, 0x05])))
      (looks 0x0602 0xFF 0x00 0x00 0xFD 0xA0 2 (bytesAt 0x0600 [0xE9, 0x05])) = true := by decide +kernel

/-- V40 and V41. -/
theorem test_step_and :
    nextHolds (step (start 0x0600 0xFF 0x00 0x00 0xFD 0x61 (bytesAt 0x0600 [0x29, 0x00])))
      (looks 0x0602 0x00 0x00 0x00 0xFD 0x63 2 (bytesAt 0x0600 [0x29, 0x00])) = true ∧
    nextHolds (step (start 0x0600 0xFF 0x00 0x01 0xFD 0x20 (bytesAt 0x0600 [0x31, 0x10] ++ [(0x0010, 0xFF), (0x0011, 0x12), (0x1300, 0x80)])))
      (looks 0x0602 0x80 0x00 0x01 0xFD 0xA0 6 (bytesAt 0x0600 [0x31, 0x10] ++ [(0x0010, 0xFF), (0x0011, 0x12), (0x1300, 0x80)])) = true := by decide +kernel

/-- V42. -/
theorem test_step_ora :
    nextHolds (step (start 0x0600 0x01 0x00 0x00 0xFD 0x20 (bytesAt 0x0600 [0x09, 0x80])))
      (looks 0x0602 0x81 0x00 0x00 0xFD 0xA0 2 (bytesAt 0x0600 [0x09, 0x80])) = true := by decide +kernel

/-- V44. -/
theorem test_step_eor :
    nextHolds (step (start 0x0600 0xFF 0x00 0x00 0xFD 0x20 (bytesAt 0x0600 [0x49, 0x0F])))
      (looks 0x0602 0xF0 0x00 0x00 0xFD 0xA0 2 (bytesAt 0x0600 [0x49, 0x0F])) = true := by decide +kernel

/-- V47 and V48. -/
theorem test_step_bit :
    nextHolds (step (start 0x0600 0x3F 0x00 0x00 0xFD 0x20 (bytesAt 0x0600 [0x2C, 0x00, 0x02] ++ [(0x0200, 0xC0)])))
      (looks 0x0603 0x3F 0x00 0x00 0xFD 0xE2 4 (bytesAt 0x0600 [0x2C, 0x00, 0x02] ++ [(0x0200, 0xC0)])) = true ∧
    nextHolds (step (start 0x0600 0xFF 0x00 0x00 0xFD 0xE3 (bytesAt 0x0600 [0x24, 0x10] ++ [(0x0010, 0x01)])))
      (looks 0x0602 0xFF 0x00 0x00 0xFD 0x21 3 (bytesAt 0x0600 [0x24, 0x10] ++ [(0x0010, 0x01)])) = true := by decide +kernel

/-- V50 and V53. -/
theorem test_step_cmp :
    nextHolds (step (start 0x0600 0x00 0x00 0x00 0xFD 0x20 (bytesAt 0x0600 [0xC9, 0x01])))
      (looks 0x0602 0x00 0x00 0x00 0xFD 0xA0 2 (bytesAt 0x0600 [0xC9, 0x01])) = true ∧
    nextHolds (step (start 0x0600 0x10 0x01 0x00 0xFD 0x20 (bytesAt 0x0600 [0xDD, 0xFF, 0x12] ++ [(0x1300, 0x10)])))
      (looks 0x0603 0x10 0x01 0x00 0xFD 0x23 5 (bytesAt 0x0600 [0xDD, 0xFF, 0x12] ++ [(0x1300, 0x10)])) = true := by decide +kernel

/-- V54 and V55. -/
theorem test_step_cpx :
    nextHolds (step (start 0x0600 0x00 0x05 0x00 0xFD 0x20 (bytesAt 0x0600 [0xE0, 0x10])))
      (looks 0x0602 0x00 0x05 0x00 0xFD 0xA0 2 (bytesAt 0x0600 [0xE0, 0x10])) = true ∧
    nextHolds (step (start 0x0600 0x00 0x00 0x00 0xFD 0x20 (bytesAt 0x0600 [0xE4, 0x10] ++ [(0x0010, 0x00)])))
      (looks 0x0602 0x00 0x00 0x00 0xFD 0x23 3 (bytesAt 0x0600 [0xE4, 0x10] ++ [(0x0010, 0x00)])) = true := by decide +kernel

/-- V56 and V57. -/
theorem test_step_cpy :
    nextHolds (step (start 0x0600 0x00 0x00 0x10 0xFD 0x20 (bytesAt 0x0600 [0xC0, 0x05])))
      (looks 0x0602 0x00 0x00 0x10 0xFD 0x21 2 (bytesAt 0x0600 [0xC0, 0x05])) = true ∧
    nextHolds (step (start 0x0600 0x00 0x00 0xFF 0xFD 0x20 (bytesAt 0x0600 [0xCC, 0x00, 0x02] ++ [(0x0200, 0x00)])))
      (looks 0x0603 0x00 0x00 0xFF 0xFD 0xA1 4 (bytesAt 0x0600 [0xCC, 0x00, 0x02] ++ [(0x0200, 0x00)])) = true := by decide +kernel

/-- V58 and V59. -/
theorem test_step_inc :
    nextHolds (step (start 0x0600 0x00 0x00 0x00 0xFD 0x21 (bytesAt 0x0600 [0xE6, 0x10] ++ [(0x0010, 0xFF)])))
      (looks 0x0602 0x00 0x00 0x00 0xFD 0x23 5 (bytesAt 0x0600 [0xE6, 0x10] ++ [(0x0010, 0xFF)] ++ [(0x0010, 0x00)])) = true ∧
    nextHolds (step (start 0x0600 0x00 0x01 0x00 0xFD 0x20 (bytesAt 0x0600 [0xFE, 0xFF, 0x12] ++ [(0x1300, 0x7F)])))
      (looks 0x0603 0x00 0x01 0x00 0xFD 0xA0 7 (bytesAt 0x0600 [0xFE, 0xFF, 0x12] ++ [(0x1300, 0x7F)] ++ [(0x1300, 0x80)])) = true := by decide +kernel

/-- V60 and V61. -/
theorem test_step_dec :
    nextHolds (step (start 0x0600 0x00 0x00 0x00 0xFD 0x20 (bytesAt 0x0600 [0xC6, 0x10] ++ [(0x0010, 0x00)])))
      (looks 0x0602 0x00 0x00 0x00 0xFD 0xA0 5 (bytesAt 0x0600 [0xC6, 0x10] ++ [(0x0010, 0x00)] ++ [(0x0010, 0xFF)])) = true ∧
    nextHolds (step (start 0x0600 0x00 0x00 0x00 0xFD 0x20 (bytesAt 0x0600 [0xCE, 0x00, 0x02] ++ [(0x0200, 0x80)])))
      (looks 0x0603 0x00 0x00 0x00 0xFD 0x20 6 (bytesAt 0x0600 [0xCE, 0x00, 0x02] ++ [(0x0200, 0x80)] ++ [(0x0200, 0x7F)])) = true := by decide +kernel

/-- V62. -/
theorem test_step_inx :
    nextHolds (step (start 0x0600 0x00 0xFF 0x00 0xFD 0x20 (bytesAt 0x0600 [0xE8])))
      (looks 0x0601 0x00 0x00 0x00 0xFD 0x22 2 (bytesAt 0x0600 [0xE8])) = true := by decide +kernel

/-- V63. -/
theorem test_step_iny :
    nextHolds (step (start 0x0600 0x00 0x00 0x7F 0xFD 0x20 (bytesAt 0x0600 [0xC8])))
      (looks 0x0601 0x00 0x00 0x80 0xFD 0xA0 2 (bytesAt 0x0600 [0xC8])) = true := by decide +kernel

/-- V64. -/
theorem test_step_dex :
    nextHolds (step (start 0x0600 0x00 0x00 0x00 0xFD 0x20 (bytesAt 0x0600 [0xCA])))
      (looks 0x0601 0x00 0xFF 0x00 0xFD 0xA0 2 (bytesAt 0x0600 [0xCA])) = true := by decide +kernel

/-- V65. -/
theorem test_step_dey :
    nextHolds (step (start 0x0600 0x00 0x00 0x01 0xFD 0x20 (bytesAt 0x0600 [0x88])))
      (looks 0x0601 0x00 0x00 0x00 0xFD 0x22 2 (bytesAt 0x0600 [0x88])) = true := by decide +kernel

/-- V66 and V68. -/
theorem test_step_asl :
    nextHolds (step (start 0x0600 0x80 0x00 0x00 0xFD 0x20 (bytesAt 0x0600 [0x0A])))
      (looks 0x0601 0x00 0x00 0x00 0xFD 0x23 2 (bytesAt 0x0600 [0x0A])) = true ∧
    nextHolds (step (start 0x0600 0x00 0x01 0x00 0xFD 0x20 (bytesAt 0x0600 [0x1E, 0xFF, 0x12] ++ [(0x1300, 0x81)])))
      (looks 0x0603 0x00 0x01 0x00 0xFD 0x21 7 (bytesAt 0x0600 [0x1E, 0xFF, 0x12] ++ [(0x1300, 0x81)] ++ [(0x1300, 0x02)])) = true := by decide +kernel

/-- V69 and V70. -/
theorem test_step_lsr :
    nextHolds (step (start 0x0600 0x01 0x00 0x00 0xFD 0x20 (bytesAt 0x0600 [0x4A])))
      (looks 0x0601 0x00 0x00 0x00 0xFD 0x23 2 (bytesAt 0x0600 [0x4A])) = true ∧
    nextHolds (step (start 0x0600 0x00 0x00 0x00 0xFD 0xA0 (bytesAt 0x0600 [0x46, 0x20] ++ [(0x0020, 0xFF)])))
      (looks 0x0602 0x00 0x00 0x00 0xFD 0x21 5 (bytesAt 0x0600 [0x46, 0x20] ++ [(0x0020, 0xFF)] ++ [(0x0020, 0x7F)])) = true := by decide +kernel

/-- V71 and V72. -/
theorem test_step_rol :
    nextHolds (step (start 0x0600 0x40 0x00 0x00 0xFD 0x21 (bytesAt 0x0600 [0x2A])))
      (looks 0x0601 0x81 0x00 0x00 0xFD 0xA0 2 (bytesAt 0x0600 [0x2A])) = true ∧
    nextHolds (step (start 0x0600 0x00 0x00 0x00 0xFD 0x20 (bytesAt 0x0600 [0x26, 0x10] ++ [(0x0010, 0x80)])))
      (looks 0x0602 0x00 0x00 0x00 0xFD 0x23 5 (bytesAt 0x0600 [0x26, 0x10] ++ [(0x0010, 0x80)] ++ [(0x0010, 0x00)])) = true := by decide +kernel

/-- V73 and V74. -/
theorem test_step_ror :
    nextHolds (step (start 0x0600 0x03 0x00 0x00 0xFD 0x21 (bytesAt 0x0600 [0x6A])))
      (looks 0x0601 0x81 0x00 0x00 0xFD 0xA1 2 (bytesAt 0x0600 [0x6A])) = true ∧
    nextHolds (step (start 0x0600 0x00 0x00 0x00 0xFD 0x20 (bytesAt 0x0600 [0x66, 0x10] ++ [(0x0010, 0x01)])))
      (looks 0x0602 0x00 0x00 0x00 0xFD 0x23 5 (bytesAt 0x0600 [0x66, 0x10] ++ [(0x0010, 0x01)] ++ [(0x0010, 0x00)])) = true := by decide +kernel

/-- V75. -/
theorem test_step_bcc :
    nextHolds (step (start 0x0600 0x00 0x00 0x00 0xFD 0x20 (bytesAt 0x0600 [0x90, 0x02])))
      (looks 0x0604 0x00 0x00 0x00 0xFD 0x20 3 (bytesAt 0x0600 [0x90, 0x02])) = true := by decide +kernel

/-- V76. -/
theorem test_step_bcs :
    nextHolds (step (start 0x0600 0x00 0x00 0x00 0xFD 0x20 (bytesAt 0x0600 [0xB0, 0x02])))
      (looks 0x0602 0x00 0x00 0x00 0xFD 0x20 2 (bytesAt 0x0600 [0xB0, 0x02])) = true := by decide +kernel

/-- V77. -/
theorem test_step_beq :
    nextHolds (step (start 0x02F7 0x00 0x00 0x00 0xFD 0x22 (bytesAt 0x02F7 [0xF0, 0x07])))
      (looks 0x0300 0x00 0x00 0x00 0xFD 0x22 4 (bytesAt 0x02F7 [0xF0, 0x07])) = true := by decide +kernel

/-- V78. -/
theorem test_step_bmi :
    nextHolds (step (start 0x0610 0x00 0x00 0x00 0xFD 0xA0 (bytesAt 0x0610 [0x30, 0xF0])))
      (looks 0x0602 0x00 0x00 0x00 0xFD 0xA0 3 (bytesAt 0x0610 [0x30, 0xF0])) = true := by decide +kernel

/-- V83 and V84. -/
theorem test_step_bne :
    nextHolds (step (start 0x06FE 0x00 0x00 0x00 0xFD 0x20 (bytesAt 0x06FE [0xD0, 0x02])))
      (looks 0x0702 0x00 0x00 0x00 0xFD 0x20 3 (bytesAt 0x06FE [0xD0, 0x02])) = true ∧
    nextHolds (step (start 0xFFFC 0x00 0x00 0x00 0xFD 0x20 (bytesAt 0xFFFC [0xD0, 0x10])))
      (looks 0x000E 0x00 0x00 0x00 0xFD 0x20 4 (bytesAt 0xFFFC [0xD0, 0x10])) = true := by decide +kernel

/-- V80. -/
theorem test_step_bpl :
    nextHolds (step (start 0x0700 0x00 0x00 0x00 0xFD 0x20 (bytesAt 0x0700 [0x10, 0x80])))
      (looks 0x0682 0x00 0x00 0x00 0xFD 0x20 4 (bytesAt 0x0700 [0x10, 0x80])) = true := by decide +kernel

/-- V81. -/
theorem test_step_bvc :
    nextHolds (step (start 0x0600 0x00 0x00 0x00 0xFD 0x60 (bytesAt 0x0600 [0x50, 0x10])))
      (looks 0x0602 0x00 0x00 0x00 0xFD 0x60 2 (bytesAt 0x0600 [0x50, 0x10])) = true := by decide +kernel

/-- V82. -/
theorem test_step_bvs :
    nextHolds (step (start 0x06F0 0x00 0x00 0x00 0xFD 0x60 (bytesAt 0x06F0 [0x70, 0x7F])))
      (looks 0x0771 0x00 0x00 0x00 0xFD 0x60 4 (bytesAt 0x06F0 [0x70, 0x7F])) = true := by decide +kernel

/-- V86 and V88. -/
theorem test_step_jmp :
    nextHolds (step (start 0x0600 0x00 0x00 0x00 0xFD 0x20 (bytesAt 0x0600 [0x4C, 0x34, 0x12])))
      (looks 0x1234 0x00 0x00 0x00 0xFD 0x20 3 (bytesAt 0x0600 [0x4C, 0x34, 0x12])) = true ∧
    nextHolds (step (start 0x0600 0x00 0x00 0x00 0xFD 0x20 (bytesAt 0x0600 [0x6C, 0xFF, 0x02] ++ [(0x0200, 0x12), (0x02FF, 0x34), (0x0300, 0x56)])))
      (looks 0x1234 0x00 0x00 0x00 0xFD 0x20 5 (bytesAt 0x0600 [0x6C, 0xFF, 0x02] ++ [(0x0200, 0x12), (0x02FF, 0x34), (0x0300, 0x56)])) = true := by decide +kernel

/-- V89 and V90. -/
theorem test_step_jsr :
    nextHolds (step (start 0x0602 0x00 0x00 0x00 0xFD 0x20 (bytesAt 0x0602 [0x20, 0x0A, 0x06])))
      (looks 0x060A 0x00 0x00 0x00 0xFB 0x20 6 (bytesAt 0x0602 [0x20, 0x0A, 0x06] ++ [(0x01FD, 0x06), (0x01FC, 0x04)])) = true ∧
    nextHolds (step (start 0x0600 0x00 0x00 0x00 0x00 0x20 (bytesAt 0x0600 [0x20, 0x00, 0x80])))
      (looks 0x8000 0x00 0x00 0x00 0xFE 0x20 6 (bytesAt 0x0600 [0x20, 0x00, 0x80] ++ [(0x0100, 0x06), (0x01FF, 0x02)])) = true := by decide +kernel

/-- V91 and V92. -/
theorem test_step_rts :
    nextHolds (step (start 0x0600 0x00 0x00 0x00 0xFB 0x20 (bytesAt 0x0600 [0x60] ++ [(0x01FC, 0x04), (0x01FD, 0x06)])))
      (looks 0x0605 0x00 0x00 0x00 0xFD 0x20 6 (bytesAt 0x0600 [0x60] ++ [(0x01FC, 0x04), (0x01FD, 0x06)])) = true ∧
    nextHolds (step (start 0x0600 0x00 0x00 0x00 0xFB 0x20 (bytesAt 0x0600 [0x60] ++ [(0x01FC, 0xFF), (0x01FD, 0xFF)])))
      (looks 0x0000 0x00 0x00 0x00 0xFD 0x20 6 (bytesAt 0x0600 [0x60] ++ [(0x01FC, 0xFF), (0x01FD, 0xFF)])) = true := by decide +kernel

/-- V93 and V94. -/
theorem test_step_pha :
    nextHolds (step (start 0x0600 0x42 0x00 0x00 0xFD 0x20 (bytesAt 0x0600 [0x48])))
      (looks 0x0601 0x42 0x00 0x00 0xFC 0x20 3 (bytesAt 0x0600 [0x48] ++ [(0x01FD, 0x42)])) = true ∧
    nextHolds (step (start 0x0600 0x42 0x00 0x00 0x00 0x20 (bytesAt 0x0600 [0x48])))
      (looks 0x0601 0x42 0x00 0x00 0xFF 0x20 3 (bytesAt 0x0600 [0x48] ++ [(0x0100, 0x42)])) = true := by decide +kernel

/-- V95 and V96. -/
theorem test_step_php :
    nextHolds (step (start 0x0600 0x00 0x00 0x00 0xFD 0x24 (bytesAt 0x0600 [0x08])))
      (looks 0x0601 0x00 0x00 0x00 0xFC 0x24 3 (bytesAt 0x0600 [0x08] ++ [(0x01FD, 0x34)])) = true ∧
    nextHolds (step (start 0x0600 0x00 0x00 0x00 0xFD 0xEF (bytesAt 0x0600 [0x08])))
      (looks 0x0601 0x00 0x00 0x00 0xFC 0xEF 3 (bytesAt 0x0600 [0x08] ++ [(0x01FD, 0xFF)])) = true := by decide +kernel

/-- V97 and V98. -/
theorem test_step_pla :
    nextHolds (step (start 0x0600 0x00 0x00 0x00 0xFC 0x20 (bytesAt 0x0600 [0x68] ++ [(0x01FD, 0x80)])))
      (looks 0x0601 0x80 0x00 0x00 0xFD 0xA0 4 (bytesAt 0x0600 [0x68] ++ [(0x01FD, 0x80)])) = true ∧
    nextHolds (step (start 0x0600 0x00 0x00 0x00 0xFF 0x20 (bytesAt 0x0600 [0x68] ++ [(0x0100, 0x00)])))
      (looks 0x0601 0x00 0x00 0x00 0x00 0x22 4 (bytesAt 0x0600 [0x68] ++ [(0x0100, 0x00)])) = true := by decide +kernel

/-- V99 and V100. -/
theorem test_step_plp :
    nextHolds (step (start 0x0600 0x00 0x00 0x00 0xFC 0x20 (bytesAt 0x0600 [0x28] ++ [(0x01FD, 0xC3)])))
      (looks 0x0601 0x00 0x00 0x00 0xFD 0xE3 4 (bytesAt 0x0600 [0x28] ++ [(0x01FD, 0xC3)])) = true ∧
    nextHolds (step (start 0x0600 0x00 0x00 0x00 0xFC 0x20 (bytesAt 0x0600 [0x28] ++ [(0x01FD, 0xFF)])))
      (looks 0x0601 0x00 0x00 0x00 0xFD 0xEF 4 (bytesAt 0x0600 [0x28] ++ [(0x01FD, 0xFF)])) = true := by decide +kernel

/-- V102. -/
theorem test_step_clc :
    nextHolds (step (start 0x0600 0x00 0x00 0x00 0xFD 0x21 (bytesAt 0x0600 [0x18])))
      (looks 0x0601 0x00 0x00 0x00 0xFD 0x20 2 (bytesAt 0x0600 [0x18])) = true := by decide +kernel

/-- V103. -/
theorem test_step_cld :
    nextHolds (step (start 0x0600 0x00 0x00 0x00 0xFD 0x28 (bytesAt 0x0600 [0xD8])))
      (looks 0x0601 0x00 0x00 0x00 0xFD 0x20 2 (bytesAt 0x0600 [0xD8])) = true := by decide +kernel

/-- V104. -/
theorem test_step_cli :
    nextHolds (step (start 0x0600 0x00 0x00 0x00 0xFD 0x24 (bytesAt 0x0600 [0x58])))
      (looks 0x0601 0x00 0x00 0x00 0xFD 0x20 2 (bytesAt 0x0600 [0x58])) = true := by decide +kernel

/-- V105. -/
theorem test_step_clv :
    nextHolds (step (start 0x0600 0x00 0x00 0x00 0xFD 0x60 (bytesAt 0x0600 [0xB8])))
      (looks 0x0601 0x00 0x00 0x00 0xFD 0x20 2 (bytesAt 0x0600 [0xB8])) = true := by decide +kernel

/-- V106. -/
theorem test_step_sec :
    nextHolds (step (start 0x0600 0x00 0x00 0x00 0xFD 0x20 (bytesAt 0x0600 [0x38])))
      (looks 0x0601 0x00 0x00 0x00 0xFD 0x21 2 (bytesAt 0x0600 [0x38])) = true := by decide +kernel

/-- V107. -/
theorem test_step_sed :
    nextHolds (step (start 0x0600 0x00 0x00 0x00 0xFD 0x20 (bytesAt 0x0600 [0xF8])))
      (looks 0x0601 0x00 0x00 0x00 0xFD 0x28 2 (bytesAt 0x0600 [0xF8])) = true := by decide +kernel

/-- V108. -/
theorem test_step_sei :
    nextHolds (step (start 0x0600 0x00 0x00 0x00 0xFD 0x20 (bytesAt 0x0600 [0x78])))
      (looks 0x0601 0x00 0x00 0x00 0xFD 0x24 2 (bytesAt 0x0600 [0x78])) = true := by decide +kernel

/-- V109. -/
theorem test_step_nop :
    nextHolds (step (start 0x0601 0x00 0x00 0x00 0xFD 0x20 (bytesAt 0x0601 [0xEA])))
      (looks 0x0602 0x00 0x00 0x00 0xFD 0x20 2 (bytesAt 0x0601 [0xEA])) = true := by decide +kernel

/-- V110 and V111. -/
theorem test_step_brk :
    nextHolds (step (start 0x0600 0x00 0x00 0x00 0xFD 0x24 (bytesAt 0x0600 [0x00] ++ [(0xFFFE, 0x00), (0xFFFF, 0x80)])))
      (looks 0x8000 0x00 0x00 0x00 0xFA 0x24 7 (bytesAt 0x0600 [0x00] ++ [(0xFFFE, 0x00), (0xFFFF, 0x80)] ++ [(0x01FD, 0x06), (0x01FC, 0x02), (0x01FB, 0x34)])) = true ∧
    nextHolds (step (start 0x0600 0x00 0x00 0x00 0xFD 0x28 (bytesAt 0x0600 [0x00] ++ [(0xFFFE, 0x00), (0xFFFF, 0x80)])))
      (looks 0x8000 0x00 0x00 0x00 0xFA 0x2C 7 (bytesAt 0x0600 [0x00] ++ [(0xFFFE, 0x00), (0xFFFF, 0x80)] ++ [(0x01FD, 0x06), (0x01FC, 0x02), (0x01FB, 0x38)])) = true := by decide +kernel

/-- V112 and V113. -/
theorem test_step_rti :
    nextHolds (step (start 0x0600 0x00 0x00 0x00 0xFA 0x24 (bytesAt 0x0600 [0x40] ++ [(0x01FB, 0x20), (0x01FC, 0x02), (0x01FD, 0x06)])))
      (looks 0x0602 0x00 0x00 0x00 0xFD 0x20 6 (bytesAt 0x0600 [0x40] ++ [(0x01FB, 0x20), (0x01FC, 0x02), (0x01FD, 0x06)])) = true ∧
    nextHolds (step (start 0x0600 0x00 0x00 0x00 0xFA 0x20 (bytesAt 0x0600 [0x40] ++ [(0x01FB, 0xFF), (0x01FC, 0x00), (0x01FD, 0x90)])))
      (looks 0x9000 0x00 0x00 0x00 0xFD 0xEF 6 (bytesAt 0x0600 [0x40] ++ [(0x01FB, 0xFF), (0x01FC, 0x00), (0x01FD, 0x90)])) = true := by decide +kernel

/-- V114. -/
theorem test_step_nmi : nextHolds (step ((start 0x0600 0x00 0x00 0x00 0xFD 0x24 (bytesAt 0x0600 [0xEA] ++ [(0xFFFA, 0x00), (0xFFFB, 0x90)])).setNmi true))
    (looks 0x9000 0x00 0x00 0x00 0xFA 0x24 7 (bytesAt 0x0600 [0xEA] ++ [(0xFFFA, 0x00), (0xFFFB, 0x90)] ++ [(0x01FD, 0x06), (0x01FC, 0x00), (0x01FB, 0x24)])) = true := by decide +kernel

/-- V116. -/
theorem test_step_irq : nextHolds (step ((start 0x0600 0x00 0x00 0x00 0xFD 0x20 (bytesAt 0x0600 [0xEA] ++ [(0xFFFE, 0x00), (0xFFFF, 0xA0)])).setIrq true))
    (looks 0xA000 0x00 0x00 0x00 0xFA 0x24 7 (bytesAt 0x0600 [0xEA] ++ [(0xFFFE, 0x00), (0xFFFF, 0xA0)] ++ [(0x01FD, 0x06), (0x01FC, 0x00), (0x01FB, 0x20)])) = true := by decide +kernel

/-- V124: the fault names the opcode and its address, PC stays, no register changes, no cycle is counted. -/
theorem test_step_unimplemented : nextHolds (step (start 0x0600 0 0 0 0xFD 0x20 (bytesAt 0x0600 [0x02])))
    (fun t => decide (t.fault = some ⟨0x02, 0x0600⟩ ∧ t.pc = 0x0600 ∧ t.sp = 0xFD ∧ t.cyc = 0)) = true := by decide +kernel

/-- V128. -/
theorem test_reset : nextHolds (hostReset (connectBus { Bus.flat with mem := memoryOf [(0xFFFD, 0xC0)] } State.powerOn))
    (looks 0xC000 0 0 0 0xFD 0x24 7 [(0xFFFD, 0xC0)]) = true := by decide +kernel

/-- R76, R165: the trace record of V89, whose third byte JSR fetches itself. -/
theorem test_trace : traceRecord (start 0x0602 0 0 0 0xFD 0x20 (bytesAt 0x0602 [0x20, 0x0A, 0x06])) =
    some ⟨0x0602, [0x20, 0x0A, 0x06], "JSR", .abs, some 0x060A, 0, 0, 0, 0x20, 0xFD, 0⟩ := by decide +kernel

/-- R101: a device sees the byte written to it, at the register the address stands for (R106). -/
theorem test_device_sees_write : (Bus.console.write 0 0x2009 0x5A).1.accesses = [⟨.write 0x5A, 0x2001, []⟩] := by decide

/-- R101: ROM reads as the byte it holds until a write reaches it, and nothing is known of it afterwards. -/
theorem test_rom :
    let b : Bus := ⟨[⟨0x8000, 0x8000, 0x8000, .rom⟩], [(0x8000, 0xA9)], .zero, 0x00, []⟩
    (b.read 0x8000).1 = 0xA9 ∧ b.peek 0x8000 = some 0xA9 ∧
    (b.write 0 0xFFFF 0x01).1.accesses = [⟨.romWrite 0x01, 0xFFFF, [(0x8000, 0xA9)]⟩] ∧
    (b.write 0 0xFFFF 0x01).1.peek 0x8000 = none := by decide

/-- R78: a run that ends when a step count is reached, here two, and one whose step count is not reached. -/
theorem test_runUntil :
    (runUntil (fun n _ => n == 2) 0 5 (start 0x0600 0 0 0 0xFD 0x20 (bytesAt 0x0600 [0xE8, 0xE8]))).map State.x = some 2 ∧
    (runUntil (fun n _ => n == 2) 0 1 (start 0x0600 0 0 0 0xFD 0x20 (bytesAt 0x0600 [0xE8, 0xE8]))).map State.x = none := by decide +kernel

/-- R7, D18: one line for each executed instruction, in the layout given, and none for the interrupt sequence. -/
theorem test_traceLog : traceLog TraceRecord.mnemonic 3
    ((start 0x0600 0 0 0 0xFD 0x20 (bytesAt 0x0600 [0xEA] ++ bytesAt 0x9000 [0xE8, 0xAA] ++ [(0xFFFB, 0x90)])).setNmi true) =
    ["INX", "TAX"] := by decide +kernel

/-! ## Witnesses: the hypotheses of each statement can be met -/

open Sys2Proof.Reference

/-- One instruction at 0x0600 on the flat bus, V1's start state. -/
def at0600 (bytes : List Byte) : State := start 0x0600 0 0 0 0xFD 0x20 (bytesAt 0x0600 bytes)

theorem at0600_executes (bytes : List Byte) : (at0600 bytes).Executes := ⟨rfl, rfl, rfl, .inl rfl⟩

theorem flat_stack_place : ∀ v : Byte, Bus.flat.place (stackAddr v) = some (.ram, 0x0100 + v.toNat) := by decide +kernel

theorem console_stack_place : ∀ v : Byte, Bus.console.place (stackAddr v) = some (.ram, 0x0100 + v.toNat) := by
  decide +kernel

theorem stackInRam_of_place {b : Bus} (h : ∀ v : Byte, b.place (stackAddr v) = some (.ram, 0x0100 + v.toNat)) :
    b.StackInRam := by
  refine ⟨fun v => ⟨_, h v⟩, fun v w e => BitVec.eq_of_toNat_eq ?_⟩
  simp only [Bus.cell, h, Option.map_some, Option.some.injEq] at e
  omega

/-- Both buses of the spec have their stack in RAM (R105, R106). -/
theorem witness_stackInRam : Bus.flat.StackInRam ∧ Bus.console.StackInRam :=
  ⟨stackInRam_of_place flat_stack_place, stackInRam_of_place console_stack_place⟩

theorem flat_noDevice : Bus.flat.NoDevice := by
  intro r hr
  simp only [Bus.flat, flatMap, List.mem_singleton] at hr
  subst hr
  decide

theorem inv_of_flat {s : State} (h : s.bus.mem.wf = true ∧ s.p.b = false ∧ s.fault = none) : s.Inv :=
  ⟨h.1, h.2.1, fun f e => by rw [h.2.2] at e; cases e⟩

theorem witness_DecodeOfEncode :
    (Instr.ldaAbs 0xFFFF).wellFormed = true ∧ (Instr.unimplemented 0x02).wellFormed = true := by decide

theorem witness_StepRunsDecoded : (at0600 [0xA9, 0x80]).Executes ∧
    decode (fetchBytes 3 (at0600 [0xA9, 0x80])).1 = .ok (.ldaImm 0x80, [0x00]) := ⟨at0600_executes _, rfl⟩

theorem witness_FlatBusIsAnArray : Bus.flat.map = flatMap ∧ Bus.flat.mem.wf = true := ⟨rfl, rfl⟩

/-- A mirror pair at the top of the region, and two addresses below 0x2000 that are no mirrors. -/
theorem witness_ConsoleRamIsMirrored : Bus.console.map = consoleMap ∧ Bus.console.mem.wf = true ∧
    (0x1FFF : Word).toNat < 0x2000 ∧ (0x1FFF : Word).toNat % 0x0800 = (0x07FF : Word).toNat % 0x0800 ∧
    (0x0000 : Word).toNat % 0x0800 ≠ (0x07FF : Word).toNat % 0x0800 := by decide

/-- The places at the two ends of each region (R106). -/
theorem witness_ConsoleRegionOfEveryAddress : Bus.console.map = consoleMap ∧
    Bus.console.place 0x0000 = some (.ram, 0x0000) ∧ Bus.console.place 0x1FFF = some (.ram, 0x07FF) ∧
    Bus.console.place 0x2000 = some (.device, 0x2000) ∧ Bus.console.place 0x3FFF = some (.device, 0x2007) ∧
    Bus.console.place 0x4000 = some (.device, 0x4000) ∧ Bus.console.place 0xFFFF = some (.device, 0xFFFF) := by decide

/-- A bus with nothing on it, under each policy. -/
theorem witness_OpenBus : ({ Bus.flat with map := [] } : Bus).place 0x0000 = none ∧
    ({ Bus.flat with map := [], openBus := .lastDriven, lastDriven := 0x42 } : Bus).place 0xFFFF = none := by decide

theorem witness_StallIsATransfer : ∀ k, Bus.flat.place 0x4014 ≠ some (.device, k) := by
  intro k h
  have : Bus.flat.place 0x4014 = some (.ram, 0x4014) := rfl
  rw [this] at h
  cases h

/-- A form of each of STA, STX and STY, and an address that is no mirror of the one stored to. -/
theorem witness_StoredByteIsHeld : (at0600 [0x85, 0x10]).Inv ∧
    (⟨[0x85, 0x10], .staZp 0x10, .zp 0x10, 3⟩ : Form MemMode) ∈ staForms 0x10 0 ∧
    (⟨[0x86, 0x10], .stxZp 0x10, .zp 0x10, 3⟩ : Form MemMode) ∈ stxForms 0x10 0 ∧
    (⟨[0x84, 0x10], .styZp 0x10, .zp 0x10, 3⟩ : Form MemMode) ∈ styForms 0x10 0 ∧
    (at0600 [0x85, 0x10]).bus.place (resolve (.zp 0x10) (at0600 [0x85, 0x10])).ea = some (.ram, 0x0010) ∧
    (at0600 [0x85, 0x10]).bus.Apart 0x0011 (resolve (.zp 0x10) (at0600 [0x85, 0x10])).ea :=
  ⟨inv_of_flat (by decide +kernel), by simp [staForms], by simp [stxForms], by simp [styForms], rfl,
    by unfold Bus.Apart; decide +kernel⟩

/-- JSR with its last byte where the high byte goes, and where the low byte goes; the stack pointer wraps in the second. -/
theorem witness_JsrReadsPushedByte :
    ((at0600 []).setPC 0x01FD).Inv ∧ ((at0600 []).setPC 0x01FD).bus.StackInRam ∧
    ((at0600 []).setPC 0x01FD).pc = stackAddr ((at0600 []).setPC 0x01FD).sp ∧
    (((at0600 []).setPC 0x01FF).setSP 0x00).Inv ∧ (((at0600 []).setPC 0x01FF).setSP 0x00).bus.StackInRam ∧
    (((at0600 []).setPC 0x01FF).setSP 0x00).pc = stackAddr ((((at0600 []).setPC 0x01FF).setSP 0x00).sp - 1#8) :=
  ⟨inv_of_flat (by decide +kernel), witness_stackInRam.1, by decide +kernel, inv_of_flat (by decide +kernel),
    witness_stackInRam.1, by decide +kernel⟩

theorem witness_SubroutineReturns : State.reset.Inv ∧ State.reset.bus.StackInRam :=
  ⟨inv_of_flat (by decide +kernel), witness_stackInRam.1⟩

theorem witness_InterruptReturns : ({ State.reset with bus := Bus.console }).Inv ∧
    ({ State.reset with bus := Bus.console }).bus.StackInRam :=
  ⟨inv_of_flat (by decide +kernel), witness_stackInRam.2⟩

theorem witness_UnimplementedRecordsFault : (at0600 [0xFF]).Executes ∧
    (memRead (at0600 [0xFF]) (at0600 [0xFF]).pc).value.toNat ∈ unimplementedOpcodes :=
  ⟨at0600_executes _, by decide +kernel⟩

/-- NOP is in no list of writers, and STA in no list of flag writers. -/
theorem witness_RegisterFrame_FlagFrame_ControlFrame : (∃ t, exec .nop State.reset = .next t) ∧
    Instr.nop.mnemonic = "NOP" ∧ Instr.nop.cls = some .implied ∧ (∀ op, Instr.nop ≠ .unimplemented op) ∧
    (∃ t, exec (.staZp 0x10) State.reset = .next t) ∧ (Instr.staZp 0x10).mnemonic = "STA" :=
  ⟨⟨_, rfl⟩, by simp [Instr.mnemonic], by simp [Instr.cls], fun _ => by simp, ⟨_, rfl⟩, by simp [Instr.mnemonic]⟩

theorem witness_MemoryFrame : (∃ t, exec .php State.reset = .next t) ∧
    ∀ e ∈ storeAddresses .php State.reset, State.reset.bus.Apart 0x01FC e := by
  refine ⟨⟨_, rfl⟩, ?_⟩
  simp only [storeAddresses, Instr.cls, Instr.row_php, Option.map_some, List.mem_singleton, forall_eq]
  unfold Bus.Apart
  decide +kernel

theorem witness_NmiIsServiced : (State.reset.setNmi true).busAttached = true ∧ (State.reset.setNmi true).fault = none ∧
    (State.reset.setNmi true).nmiLatch = true := ⟨rfl, rfl, rfl⟩

theorem witness_IrqIsServiced : ((State.reset.setIrq true).setIPoll false).busAttached = true ∧
    ((State.reset.setIrq true).setIPoll false).fault = none ∧ ((State.reset.setIrq true).setIPoll false).nmiLatch = false ∧
    ((State.reset.setIrq true).setIPoll false).irqLine = true ∧ ((State.reset.setIrq true).setIPoll false).iPoll = false :=
  ⟨rfl, rfl, rfl, rfl, rfl⟩

/-- A step of SEI, and a step of NOP. -/
theorem witness_PollRule :
    (∃ t, step (at0600 [0x78]) = .next t ∧ decide (t.fault = none) = true) ∧
    (fetchInstr (at0600 [0x78])).instr = .sei ∧ (at0600 [0x78]).Executes ∧
    (∃ t, step (at0600 [0xEA]) = .next t ∧ decide (t.fault = none) = true) ∧
    (fetchInstr (at0600 [0xEA])).instr = .nop :=
  ⟨next_of_nextHolds (by decide +kernel), by decide +kernel, at0600_executes _, next_of_nextHolds (by decide +kernel),
    by decide +kernel⟩

/-- V120's start state: CLI then NOP, with IRQ asserted and I set; and the second step, whose I stays clear. -/
theorem witness_CliWindow :
    let s := (start 0x0600 0 0 0 0xFD 0x24 (bytesAt 0x0600 [0x58, 0xEA])).setIrq true
    s.Executes ∧ s.irqLine = true ∧ s.p.i = true ∧ (fetchInstr s).instr = .cli ∧
    nextHolds (step s) (fun t => nextHolds (step t) fun u => decide (u.fault = none ∧ u.p.i = false)) = true :=
  ⟨⟨rfl, rfl, rfl, .inr rfl⟩, rfl, rfl, by decide +kernel, by decide +kernel⟩

/-- V122's start state: a PLP that pulls I = 0. -/
theorem witness_CliWindow_plp :
    let s := (start 0x0600 0 0 0 0xFC 0x24 (bytesAt 0x0600 [0x28, 0xEA])).setIrq true
    s.Executes ∧ s.irqLine = true ∧ s.p.i = true ∧ (fetchInstr s).instr = .plp ∧
    (pull (fetchInstr s).state).value.getLsbD 2 = false ∧
    nextHolds (step s) (fun t => nextHolds (step t) fun u => decide (u.fault = none ∧ u.p.i = false)) = true :=
  ⟨⟨rfl, rfl, rfl, .inr rfl⟩, rfl, rfl, by decide +kernel, by decide +kernel, by decide +kernel⟩

/-- V119's start state. -/
theorem witness_SeiWindow :
    let s := start 0x0600 0 0 0 0xFD 0x20 (bytesAt 0x0600 [0x78, 0xEA])
    s.Executes ∧ s.p.i = false ∧ (fetchInstr s).instr = .sei := ⟨⟨rfl, rfl, rfl, .inl rfl⟩, rfl, by decide +kernel⟩

/-- A PLP that pulls I = 1. -/
theorem witness_SeiWindow_plp :
    let s := start 0x0600 0 0 0 0xFC 0x20 (bytesAt 0x0600 [0x28, 0xEA] ++ [(0x01FD, 0x04)])
    s.Executes ∧ s.p.i = false ∧ (fetchInstr s).instr = .plp ∧
    (pull (fetchInstr s).state).value.getLsbD 2 = true :=
  ⟨⟨rfl, rfl, rfl, .inl rfl⟩, rfl, by decide +kernel, by decide +kernel⟩

theorem witness_WhereNothingHappens :
    (State.reset.setFault (some ⟨0x02, 0x0600⟩)).fault = some ⟨0x02, 0x0600⟩ ∧
    (State.reset.setFault (some ⟨0x02, 0x0600⟩)).busAttached = true ∧
    (∃ t, perform .reset (State.reset.setFault (some ⟨0x02, 0x0600⟩)) = .next t) ∧
    State.powerOn.busAttached = false := ⟨rfl, rfl, ⟨_, rfl⟩, rfl⟩

theorem witness_ResetSequenceResult : State.powerOn.busAttached = false ∧
    (connectBus Bus.console State.powerOn).busAttached = true := ⟨rfl, rfl⟩

theorem witness_StepKeepsInvariant : State.reset.Inv ∧ ∃ t, step State.reset = .next t ∧ decide (t.pc = 0x0000) = true :=
  ⟨inv_of_flat (by decide +kernel), next_of_nextHolds (by decide +kernel)⟩

/-- An action that attaches a bus, from a state that meets the invariant; and a state the host can bring about. -/
theorem witness_ReachableStatesMeetInvariant : HostActionOk (.connectBus Bus.console) ∧ State.reset.Inv ∧
    (∃ t, perform (.connectBus Bus.console) State.reset = .next t) ∧
    Reachable (connectBus Bus.flat State.powerOn) :=
  ⟨rfl, inv_of_flat (by decide +kernel), ⟨_, rfl⟩, .action _ _ (.connectBus Bus.flat) .powerOn rfl rfl⟩

/-- A step that completes, a step that records the fault, and states with no transition. -/
theorem witness_CyclesOnlyGrow : (∃ t, step (at0600 [0xEA]) = .next t ∧ decide (t.fault = none) = true) ∧
    (∃ t, step (at0600 [0x02]) = .next t ∧ decide (t.fault ≠ none) = true) ∧
    State.powerOn.busAttached = false ∧ (State.reset.setFault (some ⟨0x02, 0x0600⟩)).fault ≠ none :=
  ⟨next_of_nextHolds (by decide +kernel), next_of_nextHolds (by decide +kernel), rfl, by decide⟩

/-- A form that carries the page penalty and crosses a page, and one that does not carry it. -/
theorem witness_CyclesOfEveryRow : (Instr.ldaAbsx 0x12FF).wellFormed = true ∧
    (Instr.ldaAbsx 0x12FF).row = some ⟨0xBD, "LDA", .absx, 4, true, .read, .word .ldaAbsx⟩ ∧
    crossedPage (.ldaAbsx 0x12FF) (State.reset.setX 1) = true ∧ (State.reset.setX 1).bus.NoDevice ∧
    (∃ t, exec (.ldaAbsx 0x12FF) (State.reset.setX 1) = .next t) ∧
    (Instr.staAbsx 0x12FF).row = some ⟨0x9D, "STA", .absx, 5, false, .write, .word .staAbsx⟩ :=
  ⟨rfl, by simp, by decide +kernel, flat_noDevice, ⟨_, rfl⟩, by simp⟩

theorem witness_InterruptInputsAreTheHosts :
    ∃ t, step ((State.reset.setNmi true).setIrq true) = .next t ∧ decide (t.irqLine = true) = true :=
  next_of_nextHolds (by decide +kernel)

theorem witness_DecimalIsInert :
    (Instr.adcImm 0x01).mnemonic ∉ ["CLD", "SED", "PLP", "RTI", "PHP", "BRK"] := by simp [Instr.mnemonic]

theorem witness_CycIsNotRead : State.reset.bus.NoDevice := flat_noDevice

/-- A state for each clause: an instruction with a row, a latched NMI, an unimplemented opcode. -/
theorem witness_TraceRecordContents : (at0600 [0xEA]).Executes ∧
    (fetchInstr (at0600 [0xEA])).instr.row = some ⟨0xEA, "NOP", .imp, 2, false, .implied, .plain .nop⟩ ∧
    ¬ (State.reset.setNmi true).Executes ∧
    (memRead (at0600 [0x02]) (at0600 [0x02]).pc).value.toNat ∈ unimplementedOpcodes := by
  refine ⟨at0600_executes _, ?_, (fun h => by cases h.2.2.1), by decide +kernel⟩
  rw [show (fetchInstr (at0600 [0xEA])).instr = .nop by decide +kernel]
  simp

/-- The forms the result statements range over are the documented rows of their mnemonics (R170): 8 for LDA, ADC, SBC, AND,
ORA, EOR and CMP, and so on. -/
theorem witness_forms (b : Byte) (w : Word) (p : Flags) :
    (ldaForms b w).length = 8 ∧ (ldxForms b w).length = 5 ∧ (ldyForms b w).length = 5 ∧ (staForms b w).length = 7 ∧
    (stxForms b w).length = 3 ∧ (styForms b w).length = 3 ∧ (adcForms b w).length = 8 ∧ (sbcForms b w).length = 8 ∧
    (andForms b w).length = 8 ∧ (oraForms b w).length = 8 ∧ (eorForms b w).length = 8 ∧ (bitForms b w).length = 2 ∧
    (cmpForms b w).length = 8 ∧ (cpxForms b w).length = 3 ∧ (cpyForms b w).length = 3 ∧ (incForms b w).length = 4 ∧
    (decForms b w).length = 4 ∧ (aslForms b w).length = 4 ∧ (lsrForms b w).length = 4 ∧ (rolForms b w).length = 4 ∧
    (rorForms b w).length = 4 ∧ (branchForms b p).length = 8 :=
  ⟨rfl, rfl, rfl, rfl, rfl, rfl, rfl, rfl, rfl, rfl, rfl, rfl, rfl, rfl, rfl, rfl, rfl, rfl, rfl, rfl, rfl, rfl⟩


end Sys2Proof.Tests
end

section
/-! What `exec` can do, said once: the meaning of every instruction is one of a few shapes, given with the row of the opcode
table it belongs to. The frames, the invariant and the other facts about every instruction are case splits on the shape. -/

namespace Sys2Proof.Machine

/-- The instructions of class `read` (30_encoding.md R156), by mnemonic. -/
inductive ReadOp where
  | lda | ldx | ldy | adc | sbc | and | ora | eor | bit | cmp | cpx | cpy

/-- The mnemonic of a class `read` instruction. -/
def ReadOp.mnemonic : ReadOp → String
  | .lda => "LDA" | .ldx => "LDX" | .ldy => "LDY" | .adc => "ADC" | .sbc => "SBC" | .and => "AND"
  | .ora => "ORA" | .eor => "EOR" | .bit => "BIT" | .cmp => "CMP" | .cpx => "CPX" | .cpy => "CPY"

/-- What a class `read` instruction does with its operand. -/
def ReadOp.effect : ReadOp → Byte → State → State
  | .lda => effectLda | .ldx => effectLdx | .ldy => effectLdy | .adc => effectAdc | .sbc => effectSbc
  | .and => effectAnd | .ora => effectOra | .eor => effectEor | .bit => effectBit | .cmp => effectCmp
  | .cpx => effectCpx | .cpy => effectCpy

/-- The instructions that rewrite a byte, in memory or in A (R300, R301, R320 to R324), by mnemonic. -/
inductive RewriteOp where
  | inc | dec | asl | lsr | rol | ror

/-- The mnemonic of an instruction that rewrites a byte. -/
def RewriteOp.mnemonic : RewriteOp → String
  | .inc => "INC" | .dec => "DEC" | .asl => "ASL" | .lsr => "LSR" | .rol => "ROL" | .ror => "ROR"

/-- The byte and the flags that a rewrite gives. -/
def RewriteOp.apply : RewriteOp → Byte → Flags → Byte × Flags
  | .inc => incByte | .dec => decByte | .asl => aslByte | .lsr => lsrByte | .rol => rolByte | .ror => rorByte

/-- The register a class `write` instruction stores (R203 to R205). -/
inductive StoreReg where
  | a | x | y

/-- The byte a store writes. -/
def StoreReg.value : StoreReg → State → Byte
  | .a => State.a | .x => State.x | .y => State.y

/-- The conditional branches (R341 to R348). -/
inductive BranchOp where
  | bcc | bcs | beq | bmi | bne | bpl | bvc | bvs

/-- The condition of a branch. -/
def BranchOp.holds : BranchOp → Flags → Bool
  | .bcc, p => !p.c | .bcs, p => p.c | .beq, p => p.z | .bmi, p => p.n
  | .bne, p => !p.z | .bpl, p => !p.n | .bvc, p => !p.v | .bvs, p => p.v

/-- The instructions of class `implied` at whose end the next boundary samples I as they left it: all but CLI and SEI. -/
inductive ImpliedOp where
  | tax | tay | tsx | txa | txs | tya | inx | iny | dex | dey | clc | cld | clv | sec | sed | nop

/-- The mnemonic of a class `implied` instruction. -/
def ImpliedOp.mnemonic : ImpliedOp → String
  | .tax => "TAX" | .tay => "TAY" | .tsx => "TSX" | .txa => "TXA" | .txs => "TXS" | .tya => "TYA"
  | .inx => "INX" | .iny => "INY" | .dex => "DEX" | .dey => "DEY" | .clc => "CLC" | .cld => "CLD"
  | .clv => "CLV" | .sec => "SEC" | .sed => "SED" | .nop => "NOP"

/-- What a class `implied` instruction does to the registers and the flags. -/
def ImpliedOp.effect : ImpliedOp → State → State
  | .tax, s => (s.setX s.a).setNZ s.a
  | .tay, s => (s.setY s.a).setNZ s.a
  | .tsx, s => (s.setX s.sp).setNZ s.sp
  | .txa, s => (s.setA s.x).setNZ s.x
  | .txs, s => s.setSP s.x
  | .tya, s => (s.setA s.y).setNZ s.y
  | .inx, s => (s.setX (s.x + 1#8)).setNZ (s.x + 1#8)
  | .iny, s => (s.setY (s.y + 1#8)).setNZ (s.y + 1#8)
  | .dex, s => (s.setX (s.x - 1#8)).setNZ (s.x - 1#8)
  | .dey, s => (s.setY (s.y - 1#8)).setNZ (s.y - 1#8)
  | .clc, s => s.setP { s.p with c := false }
  | .cld, s => s.setP { s.p with d := false }
  | .clv, s => s.setP { s.p with v := false }
  | .sec, s => s.setP { s.p with c := true }
  | .sed, s => s.setP { s.p with d := true }
  | .nop, s => s

/-- The shapes of a meaning: `Runs i f` says that the instruction `i`, with its row, is executed by `f`. -/
inductive Runs : Instr → (State → Result) → Prop where
  | read {i code mode n pen build} (op : ReadOp) (o : Operand)
      (row : i.row = some ⟨code, op.mnemonic, mode, n, pen, .read, build⟩) : Runs i (readClass o n op.effect)
  | write {i code name mode n pen build} (reg : StoreReg) (m : MemMode)
      (row : i.row = some ⟨code, name, mode, n, pen, .write, build⟩) : Runs i fun s => writeClass m n (reg.value s) s
  | rmw {i code mode n pen build} (op : RewriteOp) (m : MemMode)
      (row : i.row = some ⟨code, op.mnemonic, mode, n, pen, .rmw, build⟩) : Runs i (rmwClass m n op.apply)
  | acc {i code mode n pen build} (op : RewriteOp) (shift : i ∈ [Instr.aslAcc, .lsrAcc, .rolAcc, .rorAcc])
      (row : i.row = some ⟨code, op.mnemonic, mode, n, pen, .acc, build⟩) : Runs i (accClass n op.apply)
  | branch {i code name mode n pen build} (op : BranchOp) (off : Byte)
      (row : i.row = some ⟨code, name, mode, n, pen, .branch, build⟩) :
      Runs i fun s => branchClass (op.holds s.p) off n s
  | jump {i code name mode n pen build} (m : MemMode)
      (row : i.row = some ⟨code, name, mode, n, pen, .jump, build⟩) :
      Runs i fun s => finish ((resolve m s).state.setPC (resolve m s).ea) n
  | implied {i code mode n pen build} (op : ImpliedOp)
      (row : i.row = some ⟨code, op.mnemonic, mode, n, pen, .implied, build⟩) : Runs i fun s => finish (op.effect s) n
  | cli : Runs .cli execCli
  | sei : Runs .sei execSei
  | jsr (lo : Byte) : Runs (.jsr lo) (execJsr lo)
  | rts : Runs .rts execRts
  | pha : Runs .pha execPha
  | php : Runs .php execPhp
  | pla : Runs .pla execPla
  | plp : Runs .plp execPlp
  | brk : Runs .brk execBrk
  | rti : Runs .rti execRti
  | unimplemented (op : Byte) : Runs (.unimplemented op) (execUnimplemented op)

/-- Every instruction is executed by a meaning of one of the shapes. -/
theorem exec_runs (i : Instr) : Runs i (exec i) := by
  cases i with
  | ldaImm v => exact .read .lda (.imm v) (Instr.row_ldaImm v)
  | ldaZp a => exact .read .lda (.mem (.zp a)) (Instr.row_ldaZp a)
  | ldaZpx a => exact .read .lda (.mem (.zpx a)) (Instr.row_ldaZpx a)
  | ldaAbs a => exact .read .lda (.mem (.abs a)) (Instr.row_ldaAbs a)
  | ldaAbsx a => exact .read .lda (.mem (.absx a)) (Instr.row_ldaAbsx a)
  | ldaAbsy a => exact .read .lda (.mem (.absy a)) (Instr.row_ldaAbsy a)
  | ldaIndx z => exact .read .lda (.mem (.indx z)) (Instr.row_ldaIndx z)
  | ldaIndy z => exact .read .lda (.mem (.indy z)) (Instr.row_ldaIndy z)
  | ldxImm v => exact .read .ldx (.imm v) (Instr.row_ldxImm v)
  | ldxZp a => exact .read .ldx (.mem (.zp a)) (Instr.row_ldxZp a)
  | ldxZpy a => exact .read .ldx (.mem (.zpy a)) (Instr.row_ldxZpy a)
  | ldxAbs a => exact .read .ldx (.mem (.abs a)) (Instr.row_ldxAbs a)
  | ldxAbsy a => exact .read .ldx (.mem (.absy a)) (Instr.row_ldxAbsy a)
  | ldyImm v => exact .read .ldy (.imm v) (Instr.row_ldyImm v)
  | ldyZp a => exact .read .ldy (.mem (.zp a)) (Instr.row_ldyZp a)
  | ldyZpx a => exact .read .ldy (.mem (.zpx a)) (Instr.row_ldyZpx a)
  | ldyAbs a => exact .read .ldy (.mem (.abs a)) (Instr.row_ldyAbs a)
  | ldyAbsx a => exact .read .ldy (.mem (.absx a)) (Instr.row_ldyAbsx a)
  | staZp a => exact .write .a (.zp a) (Instr.row_staZp a)
  | staZpx a => exact .write .a (.zpx a) (Instr.row_staZpx a)
  | staAbs a => exact .write .a (.abs a) (Instr.row_staAbs a)
  | staAbsx a => exact .write .a (.absx a) (Instr.row_staAbsx a)
  | staAbsy a => exact .write .a (.absy a) (Instr.row_staAbsy a)
  | staIndx z => exact .write .a (.indx z) (Instr.row_staIndx z)
  | staIndy z => exact .write .a (.indy z) (Instr.row_staIndy z)
  | stxZp a => exact .write .x (.zp a) (Instr.row_stxZp a)
  | stxZpy a => exact .write .x (.zpy a) (Instr.row_stxZpy a)
  | stxAbs a => exact .write .x (.abs a) (Instr.row_stxAbs a)
  | styZp a => exact .write .y (.zp a) (Instr.row_styZp a)
  | styZpx a => exact .write .y (.zpx a) (Instr.row_styZpx a)
  | styAbs a => exact .write .y (.abs a) (Instr.row_styAbs a)
  | tax => exact .implied .tax Instr.row_tax
  | tay => exact .implied .tay Instr.row_tay
  | tsx => exact .implied .tsx Instr.row_tsx
  | txa => exact .implied .txa Instr.row_txa
  | txs => exact .implied .txs Instr.row_txs
  | tya => exact .implied .tya Instr.row_tya
  | adcImm v => exact .read .adc (.imm v) (Instr.row_adcImm v)
  | adcZp a => exact .read .adc (.mem (.zp a)) (Instr.row_adcZp a)
  | adcZpx a => exact .read .adc (.mem (.zpx a)) (Instr.row_adcZpx a)
  | adcAbs a => exact .read .adc (.mem (.abs a)) (Instr.row_adcAbs a)
  | adcAbsx a => exact .read .adc (.mem (.absx a)) (Instr.row_adcAbsx a)
  | adcAbsy a => exact .read .adc (.mem (.absy a)) (Instr.row_adcAbsy a)
  | adcIndx z => exact .read .adc (.mem (.indx z)) (Instr.row_adcIndx z)
  | adcIndy z => exact .read .adc (.mem (.indy z)) (Instr.row_adcIndy z)
  | sbcImm v => exact .read .sbc (.imm v) (Instr.row_sbcImm v)
  | sbcZp a => exact .read .sbc (.mem (.zp a)) (Instr.row_sbcZp a)
  | sbcZpx a => exact .read .sbc (.mem (.zpx a)) (Instr.row_sbcZpx a)
  | sbcAbs a => exact .read .sbc (.mem (.abs a)) (Instr.row_sbcAbs a)
  | sbcAbsx a => exact .read .sbc (.mem (.absx a)) (Instr.row_sbcAbsx a)
  | sbcAbsy a => exact .read .sbc (.mem (.absy a)) (Instr.row_sbcAbsy a)
  | sbcIndx z => exact .read .sbc (.mem (.indx z)) (Instr.row_sbcIndx z)
  | sbcIndy z => exact .read .sbc (.mem (.indy z)) (Instr.row_sbcIndy z)
  | andImm v => exact .read .and (.imm v) (Instr.row_andImm v)
  | andZp a => exact .read .and (.mem (.zp a)) (Instr.row_andZp a)
  | andZpx a => exact .read .and (.mem (.zpx a)) (Instr.row_andZpx a)
  | andAbs a => exact .read .and (.mem (.abs a)) (Instr.row_andAbs a)
  | andAbsx a => exact .read .and (.mem (.absx a)) (Instr.row_andAbsx a)
  | andAbsy a => exact .read .and (.mem (.absy a)) (Instr.row_andAbsy a)
  | andIndx z => exact .read .and (.mem (.indx z)) (Instr.row_andIndx z)
  | andIndy z => exact .read .and (.mem (.indy z)) (Instr.row_andIndy z)
  | oraImm v => exact .read .ora (.imm v) (Instr.row_oraImm v)
  | oraZp a => exact .read .ora (.mem (.zp a)) (Instr.row_oraZp a)
  | oraZpx a => exact .read .ora (.mem (.zpx a)) (Instr.row_oraZpx a)
  | oraAbs a => exact .read .ora (.mem (.abs a)) (Instr.row_oraAbs a)
  | oraAbsx a => exact .read .ora (.mem (.absx a)) (Instr.row_oraAbsx a)
  | oraAbsy a => exact .read .ora (.mem (.absy a)) (Instr.row_oraAbsy a)
  | oraIndx z => exact .read .ora (.mem (.indx z)) (Instr.row_oraIndx z)
  | oraIndy z => exact .read .ora (.mem (.indy z)) (Instr.row_oraIndy z)
  | eorImm v => exact .read .eor (.imm v) (Instr.row_eorImm v)
  | eorZp a => exact .read .eor (.mem (.zp a)) (Instr.row_eorZp a)
  | eorZpx a => exact .read .eor (.mem (.zpx a)) (Instr.row_eorZpx a)
  | eorAbs a => exact .read .eor (.mem (.abs a)) (Instr.row_eorAbs a)
  | eorAbsx a => exact .read .eor (.mem (.absx a)) (Instr.row_eorAbsx a)
  | eorAbsy a => exact .read .eor (.mem (.absy a)) (Instr.row_eorAbsy a)
  | eorIndx z => exact .read .eor (.mem (.indx z)) (Instr.row_eorIndx z)
  | eorIndy z => exact .read .eor (.mem (.indy z)) (Instr.row_eorIndy z)
  | bitZp a => exact .read .bit (.mem (.zp a)) (Instr.row_bitZp a)
  | bitAbs a => exact .read .bit (.mem (.abs a)) (Instr.row_bitAbs a)
  | cmpImm v => exact .read .cmp (.imm v) (Instr.row_cmpImm v)
  | cmpZp a => exact .read .cmp (.mem (.zp a)) (Instr.row_cmpZp a)
  | cmpZpx a => exact .read .cmp (.mem (.zpx a)) (Instr.row_cmpZpx a)
  | cmpAbs a => exact .read .cmp (.mem (.abs a)) (Instr.row_cmpAbs a)
  | cmpAbsx a => exact .read .cmp (.mem (.absx a)) (Instr.row_cmpAbsx a)
  | cmpAbsy a => exact .read .cmp (.mem (.absy a)) (Instr.row_cmpAbsy a)
  | cmpIndx z => exact .read .cmp (.mem (.indx z)) (Instr.row_cmpIndx z)
  | cmpIndy z => exact .read .cmp (.mem (.indy z)) (Instr.row_cmpIndy z)
  | cpxImm v => exact .read .cpx (.imm v) (Instr.row_cpxImm v)
  | cpxZp a => exact .read .cpx (.mem (.zp a)) (Instr.row_cpxZp a)
  | cpxAbs a => exact .read .cpx (.mem (.abs a)) (Instr.row_cpxAbs a)
  | cpyImm v => exact .read .cpy (.imm v) (Instr.row_cpyImm v)
  | cpyZp a => exact .read .cpy (.mem (.zp a)) (Instr.row_cpyZp a)
  | cpyAbs a => exact .read .cpy (.mem (.abs a)) (Instr.row_cpyAbs a)
  | incZp a => exact .rmw .inc (.zp a) (Instr.row_incZp a)
  | incZpx a => exact .rmw .inc (.zpx a) (Instr.row_incZpx a)
  | incAbs a => exact .rmw .inc (.abs a) (Instr.row_incAbs a)
  | incAbsx a => exact .rmw .inc (.absx a) (Instr.row_incAbsx a)
  | decZp a => exact .rmw .dec (.zp a) (Instr.row_decZp a)
  | decZpx a => exact .rmw .dec (.zpx a) (Instr.row_decZpx a)
  | decAbs a => exact .rmw .dec (.abs a) (Instr.row_decAbs a)
  | decAbsx a => exact .rmw .dec (.absx a) (Instr.row_decAbsx a)
  | inx => exact .implied .inx Instr.row_inx
  | iny => exact .implied .iny Instr.row_iny
  | dex => exact .implied .dex Instr.row_dex
  | dey => exact .implied .dey Instr.row_dey
  | aslAcc => exact .acc .asl (by simp) Instr.row_aslAcc
  | aslZp a => exact .rmw .asl (.zp a) (Instr.row_aslZp a)
  | aslZpx a => exact .rmw .asl (.zpx a) (Instr.row_aslZpx a)
  | aslAbs a => exact .rmw .asl (.abs a) (Instr.row_aslAbs a)
  | aslAbsx a => exact .rmw .asl (.absx a) (Instr.row_aslAbsx a)
  | lsrAcc => exact .acc .lsr (by simp) Instr.row_lsrAcc
  | lsrZp a => exact .rmw .lsr (.zp a) (Instr.row_lsrZp a)
  | lsrZpx a => exact .rmw .lsr (.zpx a) (Instr.row_lsrZpx a)
  | lsrAbs a => exact .rmw .lsr (.abs a) (Instr.row_lsrAbs a)
  | lsrAbsx a => exact .rmw .lsr (.absx a) (Instr.row_lsrAbsx a)
  | rolAcc => exact .acc .rol (by simp) Instr.row_rolAcc
  | rolZp a => exact .rmw .rol (.zp a) (Instr.row_rolZp a)
  | rolZpx a => exact .rmw .rol (.zpx a) (Instr.row_rolZpx a)
  | rolAbs a => exact .rmw .rol (.abs a) (Instr.row_rolAbs a)
  | rolAbsx a => exact .rmw .rol (.absx a) (Instr.row_rolAbsx a)
  | rorAcc => exact .acc .ror (by simp) Instr.row_rorAcc
  | rorZp a => exact .rmw .ror (.zp a) (Instr.row_rorZp a)
  | rorZpx a => exact .rmw .ror (.zpx a) (Instr.row_rorZpx a)
  | rorAbs a => exact .rmw .ror (.abs a) (Instr.row_rorAbs a)
  | rorAbsx a => exact .rmw .ror (.absx a) (Instr.row_rorAbsx a)
  | bcc off => exact .branch .bcc off (Instr.row_bcc off)
  | bcs off => exact .branch .bcs off (Instr.row_bcs off)
  | beq off => exact .branch .beq off (Instr.row_beq off)
  | bmi off => exact .branch .bmi off (Instr.row_bmi off)
  | bne off => exact .branch .bne off (Instr.row_bne off)
  | bpl off => exact .branch .bpl off (Instr.row_bpl off)
  | bvc off => exact .branch .bvc off (Instr.row_bvc off)
  | bvs off => exact .branch .bvs off (Instr.row_bvs off)
  | jmpAbs a => exact .jump (.abs a) (Instr.row_jmpAbs a)
  | jmpInd p => exact .jump (.ind p) (Instr.row_jmpInd p)
  | jsr lo => exact .jsr lo
  | rts => exact .rts
  | pha => exact .pha
  | php => exact .php
  | pla => exact .pla
  | plp => exact .plp
  | clc => exact .implied .clc Instr.row_clc
  | cld => exact .implied .cld Instr.row_cld
  | cli => exact .cli
  | clv => exact .implied .clv Instr.row_clv
  | sec => exact .implied .sec Instr.row_sec
  | sed => exact .implied .sed Instr.row_sed
  | sei => exact .sei
  | nop => exact .implied .nop Instr.row_nop
  | brk => exact .brk
  | rti => exact .rti
  | unimplemented op => exact .unimplemented op

end Sys2Proof.Machine
end

section
/-! What the effects of the shapes leave alone, one lemma a field. -/

namespace Sys2Proof.Machine

@[simp] theorem ReadOp.effect_sp (op : ReadOp) (m : Byte) (s : State) : (op.effect m s).sp = s.sp := by cases op <;> rfl
@[simp] theorem ReadOp.effect_pc (op : ReadOp) (m : Byte) (s : State) : (op.effect m s).pc = s.pc := by cases op <;> rfl
@[simp] theorem ReadOp.effect_cyc (op : ReadOp) (m : Byte) (s : State) : (op.effect m s).cyc = s.cyc := by
  cases op <;> rfl
@[simp] theorem ReadOp.effect_nmiLatch (op : ReadOp) (m : Byte) (s : State) :
    (op.effect m s).nmiLatch = s.nmiLatch := by cases op <;> rfl
@[simp] theorem ReadOp.effect_irqLine (op : ReadOp) (m : Byte) (s : State) :
    (op.effect m s).irqLine = s.irqLine := by cases op <;> rfl
@[simp] theorem ReadOp.effect_fault (op : ReadOp) (m : Byte) (s : State) : (op.effect m s).fault = s.fault := by
  cases op <;> rfl
@[simp] theorem ReadOp.effect_busAttached (op : ReadOp) (m : Byte) (s : State) :
    (op.effect m s).busAttached = s.busAttached := by cases op <;> rfl
@[simp] theorem ReadOp.effect_bus (op : ReadOp) (m : Byte) (s : State) : (op.effect m s).bus = s.bus := by
  cases op <;> rfl
@[simp] theorem ReadOp.effect_b (op : ReadOp) (m : Byte) (s : State) : (op.effect m s).p.b = s.p.b := by
  cases op <;> rfl
@[simp] theorem ReadOp.effect_d (op : ReadOp) (m : Byte) (s : State) : (op.effect m s).p.d = s.p.d := by
  cases op <;> rfl
@[simp] theorem ReadOp.effect_i (op : ReadOp) (m : Byte) (s : State) : (op.effect m s).p.i = s.p.i := by
  cases op <;> rfl

@[simp] theorem RewriteOp.apply_b (op : RewriteOp) (m : Byte) (p : Flags) : (op.apply m p).2.b = p.b := by
  cases op <;> rfl
@[simp] theorem RewriteOp.apply_d (op : RewriteOp) (m : Byte) (p : Flags) : (op.apply m p).2.d = p.d := by
  cases op <;> rfl
@[simp] theorem RewriteOp.apply_i (op : RewriteOp) (m : Byte) (p : Flags) : (op.apply m p).2.i = p.i := by
  cases op <;> rfl
@[simp] theorem RewriteOp.apply_v (op : RewriteOp) (m : Byte) (p : Flags) : (op.apply m p).2.v = p.v := by
  cases op <;> rfl

@[simp] theorem ImpliedOp.effect_pc (op : ImpliedOp) (s : State) : (op.effect s).pc = s.pc := by cases op <;> rfl
@[simp] theorem ImpliedOp.effect_cyc (op : ImpliedOp) (s : State) : (op.effect s).cyc = s.cyc := by cases op <;> rfl
@[simp] theorem ImpliedOp.effect_nmiLatch (op : ImpliedOp) (s : State) : (op.effect s).nmiLatch = s.nmiLatch := by
  cases op <;> rfl
@[simp] theorem ImpliedOp.effect_irqLine (op : ImpliedOp) (s : State) : (op.effect s).irqLine = s.irqLine := by
  cases op <;> rfl
@[simp] theorem ImpliedOp.effect_fault (op : ImpliedOp) (s : State) : (op.effect s).fault = s.fault := by
  cases op <;> rfl
@[simp] theorem ImpliedOp.effect_busAttached (op : ImpliedOp) (s : State) :
    (op.effect s).busAttached = s.busAttached := by cases op <;> rfl
@[simp] theorem ImpliedOp.effect_bus (op : ImpliedOp) (s : State) : (op.effect s).bus = s.bus := by cases op <;> rfl
@[simp] theorem ImpliedOp.effect_b (op : ImpliedOp) (s : State) : (op.effect s).p.b = s.p.b := by cases op <;> rfl
@[simp] theorem ImpliedOp.effect_i (op : ImpliedOp) (s : State) : (op.effect s).p.i = s.p.i := by cases op <;> rfl

/-! ### The registers and flags they write, where their mnemonic is in the rule's list of writers -/

/-- The mnemonics that write A (R41), beside the accumulator shifts. -/
def aWriters : List String := ["LDA", "PLA", "TXA", "TYA", "ADC", "SBC", "AND", "ORA", "EOR"]
/-- The mnemonics that write X (R42). -/
def xWriters : List String := ["LDX", "TAX", "TSX", "INX", "DEX"]
/-- The mnemonics that write Y (R43). -/
def yWriters : List String := ["LDY", "TAY", "INY", "DEY"]
/-- The mnemonics that write SP (R44). -/
def spWriters : List String := ["TXS", "PHA", "PHP", "PLA", "PLP", "JSR", "RTS", "RTI", "BRK"]
/-- The mnemonics with an entry for N and Z in the flag-write matrix (R57). -/
def nzWriters : List String :=
  ["ADC", "SBC", "AND", "ORA", "EOR", "BIT", "CMP", "CPX", "CPY", "INC", "DEC", "INX", "INY", "DEX",
    "DEY", "ASL", "ROL", "LSR", "ROR", "LDA", "LDX", "LDY", "TAX", "TAY", "TSX", "TXA", "TYA", "PLA", "PLP", "RTI"]
/-- The mnemonics with an entry for V (R57). -/
def vWriters : List String := ["ADC", "SBC", "BIT", "PLP", "RTI", "CLV"]
/-- The mnemonics with an entry for D (R57). -/
def dWriters : List String := ["PLP", "RTI", "CLD", "SED"]
/-- The mnemonics with an entry for I (R57). -/
def iWriters : List String := ["PLP", "RTI", "CLI", "SEI", "BRK"]
/-- The mnemonics with an entry for C (R57). -/
def cWriters : List String :=
  ["ADC", "SBC", "CMP", "CPX", "CPY", "ASL", "ROL", "LSR", "ROR", "PLP", "RTI", "CLC", "SEC"]

theorem ReadOp.effect_a {op : ReadOp} (h : op.mnemonic ∉ aWriters) (m : Byte) (s : State) :
    (op.effect m s).a = s.a := by
  cases op with
  | lda | adc | sbc | and | ora | eor => simp [ReadOp.mnemonic, aWriters] at h
  | _ => rfl

theorem ReadOp.effect_x {op : ReadOp} (h : op.mnemonic ∉ xWriters) (m : Byte) (s : State) :
    (op.effect m s).x = s.x := by
  cases op with
  | ldx => simp [ReadOp.mnemonic, xWriters] at h
  | _ => rfl

theorem ReadOp.effect_y {op : ReadOp} (h : op.mnemonic ∉ yWriters) (m : Byte) (s : State) :
    (op.effect m s).y = s.y := by
  cases op with
  | ldy => simp [ReadOp.mnemonic, yWriters] at h
  | _ => rfl

theorem ReadOp.effect_v {op : ReadOp} (h : op.mnemonic ∉ vWriters) (m : Byte) (s : State) :
    (op.effect m s).p.v = s.p.v := by
  cases op with
  | adc | sbc | bit => simp [ReadOp.mnemonic, vWriters] at h
  | _ => rfl

theorem ReadOp.effect_c {op : ReadOp} (h : op.mnemonic ∉ cWriters) (m : Byte) (s : State) :
    (op.effect m s).p.c = s.p.c := by
  cases op with
  | adc | sbc | cmp | cpx | cpy => simp [ReadOp.mnemonic, cWriters] at h
  | _ => rfl

theorem RewriteOp.apply_c {op : RewriteOp} (h : op.mnemonic ∉ cWriters) (m : Byte) (p : Flags) :
    (op.apply m p).2.c = p.c := by
  cases op with
  | inc | dec => rfl
  | _ => simp [RewriteOp.mnemonic, cWriters] at h

/-- Every class `read` instruction writes N and Z. -/
theorem ReadOp.mnemonic_mem_nzWriters (op : ReadOp) : op.mnemonic ∈ nzWriters := by
  cases op <;> simp [ReadOp.mnemonic, nzWriters]

/-- Every rewrite of a byte writes N and Z. -/
theorem RewriteOp.mnemonic_mem_nzWriters (op : RewriteOp) : op.mnemonic ∈ nzWriters := by
  cases op <;> simp [RewriteOp.mnemonic, nzWriters]

theorem ImpliedOp.effect_a {op : ImpliedOp} (h : op.mnemonic ∉ aWriters) (s : State) :
    (op.effect s).a = s.a := by
  cases op with
  | txa | tya => simp [ImpliedOp.mnemonic, aWriters] at h
  | _ => rfl

theorem ImpliedOp.effect_x {op : ImpliedOp} (h : op.mnemonic ∉ xWriters) (s : State) :
    (op.effect s).x = s.x := by
  cases op with
  | tax | tsx | inx | dex => simp [ImpliedOp.mnemonic, xWriters] at h
  | _ => rfl

theorem ImpliedOp.effect_y {op : ImpliedOp} (h : op.mnemonic ∉ yWriters) (s : State) :
    (op.effect s).y = s.y := by
  cases op with
  | tay | iny | dey => simp [ImpliedOp.mnemonic, yWriters] at h
  | _ => rfl

theorem ImpliedOp.effect_sp {op : ImpliedOp} (h : op.mnemonic ∉ spWriters) (s : State) :
    (op.effect s).sp = s.sp := by
  cases op with
  | txs => simp [ImpliedOp.mnemonic, spWriters] at h
  | _ => rfl

theorem ImpliedOp.effect_n {op : ImpliedOp} (h : op.mnemonic ∉ nzWriters) (s : State) :
    (op.effect s).p.n = s.p.n := by
  cases op with
  | tax | tay | tsx | txa | tya | inx | iny | dex | dey => simp [ImpliedOp.mnemonic, nzWriters] at h
  | _ => rfl

theorem ImpliedOp.effect_z {op : ImpliedOp} (h : op.mnemonic ∉ nzWriters) (s : State) :
    (op.effect s).p.z = s.p.z := by
  cases op with
  | tax | tay | tsx | txa | tya | inx | iny | dex | dey => simp [ImpliedOp.mnemonic, nzWriters] at h
  | _ => rfl

theorem ImpliedOp.effect_v {op : ImpliedOp} (h : op.mnemonic ∉ vWriters) (s : State) :
    (op.effect s).p.v = s.p.v := by
  cases op with
  | clv => simp [ImpliedOp.mnemonic, vWriters] at h
  | _ => rfl

theorem ImpliedOp.effect_d {op : ImpliedOp} (h : op.mnemonic ∉ dWriters) (s : State) :
    (op.effect s).p.d = s.p.d := by
  cases op with
  | cld | sed => simp [ImpliedOp.mnemonic, dWriters] at h
  | _ => rfl

theorem ImpliedOp.effect_c {op : ImpliedOp} (h : op.mnemonic ∉ cWriters) (s : State) :
    (op.effect s).p.c = s.p.c := by
  cases op with
  | clc | sec => simp [ImpliedOp.mnemonic, cWriters] at h
  | _ => rfl

end Sys2Proof.Machine
end

section
/-! The frames of an instruction (10_state.md R41 to R45, R57, R59, R60, R63, R71), by the shape of its meaning. -/

namespace Sys2Proof.Machine

theorem Runs.host_inputs_kept {i : Instr} {f : State → Result} (h : Runs i f) {s t : State} (ht : f s = .next t) :
    t.nmiLatch = s.nmiLatch ∧ t.irqLine = s.irqLine ∧ t.busAttached = s.busAttached := by
  cases h <;> obtain rfl := Host.Outcome.next.inj ht
  case branch op off row => cases op.holds s.p <;> simp
  all_goals simp [raiseUnimplemented]

theorem Runs.decode_kept {i : Instr} {f : State → Result} (h : Runs i f) {s t : State} (ht : f s = .next t) :
    t.bus.map = s.bus.map ∧ t.bus.openBus = s.bus.openBus := by
  cases h <;> obtain rfl := Host.Outcome.next.inj ht
  case branch op off row => cases op.holds s.p <;> simp
  all_goals simp [raiseUnimplemented]

theorem Runs.fault_kept {i : Instr} {f : State → Result} (h : Runs i f) {s t : State} (ht : f s = .next t)
    (hi : ∀ op, i ≠ .unimplemented op) : t.fault = s.fault := by
  cases h <;> obtain rfl := Host.Outcome.next.inj ht
  case unimplemented op => exact absurd rfl (hi op)
  case branch op off row => cases op.holds s.p <;> simp
  all_goals simp

theorem Runs.pc_kept {i : Instr} {f : State → Result} (h : Runs i f) {s t : State} (ht : f s = .next t)
    (branch : i.cls ≠ some .branch) (jump : i.cls ≠ some .jump) (stack : i.mnemonic ∉ ["JSR", "RTS", "RTI", "BRK"])
    (unimplemented : ∀ op, i ≠ .unimplemented op) : t.pc = s.pc := by
  cases h <;> obtain rfl := Host.Outcome.next.inj ht
  case branch op off row => simp [Instr.cls, row] at branch
  case jump m row => simp [Instr.cls, row] at jump
  case jsr | rts | rti | brk => simp [Instr.mnemonic] at stack
  case unimplemented op => exact absurd rfl (unimplemented op)
  all_goals simp

theorem Runs.mem_wf {i : Instr} {f : State → Result} (h : Runs i f) {s t : State} (ht : f s = .next t)
    (hs : s.bus.mem.wf = true) : t.bus.mem.wf = true := by
  cases h <;> obtain rfl := Host.Outcome.next.inj ht
  case write reg m row =>
    have hr : (resolve m s).state.bus.mem.wf = true := by simpa using hs
    simpa using memWrite_wf _ (resolve m s).ea (reg.value s) hr
  case rmw op m row =>
    have hr : (memRead (resolve m s).state (resolve m s).ea).state.bus.mem.wf = true := by simpa using hs
    simpa using memWrite_wf _ (resolve m s).ea (op.apply _ s.p).1 hr
  case jsr lo => simpa using pushWord_wf s s.pc hs
  case pha => simpa using push_wf s s.a hs
  case php => simpa using push_wf s (pack true s.p) hs
  case brk =>
    have hf : (fetchByte s).state.bus.mem.wf = true := by simpa using hs
    simpa using takeException_wf true irqVector _ hf
  case branch op off row => cases op.holds s.p <;> simpa using hs
  all_goals simpa [raiseUnimplemented] using hs

/-- Every documented row has at least two base cycles (30_encoding.md R170). -/
theorem opcodeTable_two_le_cycles : ∀ r ∈ opcodeTable, 2 ≤ r.cycles := by decide +kernel

theorem Instr.two_le_cycles {i : Instr} {r : Row} (row : i.row = some r) : 2 ≤ r.cycles :=
  opcodeTable_two_le_cycles r (findRow_some row).1

/-- An instruction counts at least two cycles, unless it records the fault (R181). -/
theorem Runs.two_cycles {i : Instr} {f : State → Result} (h : Runs i f) {s t : State} (ht : f s = .next t)
    (hi : ∀ op, i ≠ .unimplemented op) : s.cyc + 2 ≤ t.cyc := by
  cases h <;> obtain rfl := Host.Outcome.next.inj ht
  case read op o row | write reg m row | rmw op m row | acc op shift row | jump m row | implied op row =>
    have := Instr.two_le_cycles row
    simp at this ⊢
    omega
  case branch op off row =>
    have := Instr.two_le_cycles row
    cases op.holds s.p <;> simp at this ⊢ <;> omega
  case unimplemented op => exact absurd rfl (hi op)
  case jsr | pha | php | brk => simp; omega
  all_goals simp

/-- The next boundary samples I as the instruction left it, but after CLI, SEI and PLP (R62). -/
theorem Runs.poll_after {i : Instr} {f : State → Result} (h : Runs i f) {s t : State} (ht : f s = .next t)
    (delayed : i ∉ [Instr.cli, .sei, .plp]) (hi : ∀ op, i ≠ .unimplemented op) : t.iPoll = t.p.i := by
  cases h <;> obtain rfl := Host.Outcome.next.inj ht
  case cli | sei | plp => simp at delayed
  case unimplemented op => exact absurd rfl (hi op)
  all_goals rfl

/-! ### Registers (R41 to R44) -/

theorem Runs.a_kept {i : Instr} {f : State → Result} (h : Runs i f) {s t : State} (ht : f s = .next t)
    (writers : i.mnemonic ∉ aWriters) (shifts : i ∉ [Instr.aslAcc, .lsrAcc, .rolAcc, .rorAcc]) : t.a = s.a := by
  cases h <;> obtain rfl := Host.Outcome.next.inj ht
  case read op o row =>
    rw [Instr.mnemonic_of_row row] at writers
    simp [ReadOp.effect_a writers]
  case implied op row =>
    rw [Instr.mnemonic_of_row row] at writers
    simp [ImpliedOp.effect_a writers]
  case acc op shift row => exact absurd shift shifts
  case pla => simp [Instr.mnemonic, aWriters] at writers
  case branch op off row => cases op.holds s.p <;> simp
  all_goals simp [raiseUnimplemented]

theorem Runs.x_kept {i : Instr} {f : State → Result} (h : Runs i f) {s t : State} (ht : f s = .next t)
    (writers : i.mnemonic ∉ xWriters) : t.x = s.x := by
  cases h <;> obtain rfl := Host.Outcome.next.inj ht
  case read op o row =>
    rw [Instr.mnemonic_of_row row] at writers
    simp [ReadOp.effect_x writers]
  case implied op row =>
    rw [Instr.mnemonic_of_row row] at writers
    simp [ImpliedOp.effect_x writers]
  case branch op off row => cases op.holds s.p <;> simp
  all_goals simp [raiseUnimplemented]

theorem Runs.y_kept {i : Instr} {f : State → Result} (h : Runs i f) {s t : State} (ht : f s = .next t)
    (writers : i.mnemonic ∉ yWriters) : t.y = s.y := by
  cases h <;> obtain rfl := Host.Outcome.next.inj ht
  case read op o row =>
    rw [Instr.mnemonic_of_row row] at writers
    simp [ReadOp.effect_y writers]
  case implied op row =>
    rw [Instr.mnemonic_of_row row] at writers
    simp [ImpliedOp.effect_y writers]
  case branch op off row => cases op.holds s.p <;> simp
  all_goals simp [raiseUnimplemented]

theorem Runs.sp_kept {i : Instr} {f : State → Result} (h : Runs i f) {s t : State} (ht : f s = .next t)
    (writers : i.mnemonic ∉ spWriters) : t.sp = s.sp := by
  cases h <;> obtain rfl := Host.Outcome.next.inj ht
  case implied op row =>
    rw [Instr.mnemonic_of_row row] at writers
    simp [ImpliedOp.effect_sp writers]
  case jsr | rts | pha | php | pla | plp | brk | rti => simp [Instr.mnemonic, spWriters] at writers
  case branch op off row => cases op.holds s.p <;> simp
  all_goals simp [raiseUnimplemented]

/-! ### Flags (R57) -/

theorem Runs.nz_kept {i : Instr} {f : State → Result} (h : Runs i f) {s t : State} (ht : f s = .next t)
    (writers : i.mnemonic ∉ nzWriters) : t.p.n = s.p.n ∧ t.p.z = s.p.z := by
  cases h <;> obtain rfl := Host.Outcome.next.inj ht
  case read op o row | rmw op m row | acc op shift row =>
    rw [Instr.mnemonic_of_row row] at writers
    exact absurd op.mnemonic_mem_nzWriters writers
  case implied op row =>
    rw [Instr.mnemonic_of_row row] at writers
    simp [ImpliedOp.effect_n writers, ImpliedOp.effect_z writers]
  case pla | plp | rti => simp [Instr.mnemonic, nzWriters] at writers
  case branch op off row => cases op.holds s.p <;> simp
  all_goals simp [raiseUnimplemented]

theorem Runs.v_kept {i : Instr} {f : State → Result} (h : Runs i f) {s t : State} (ht : f s = .next t)
    (writers : i.mnemonic ∉ vWriters) : t.p.v = s.p.v := by
  cases h <;> obtain rfl := Host.Outcome.next.inj ht
  case read op o row =>
    rw [Instr.mnemonic_of_row row] at writers
    simp [ReadOp.effect_v writers]
  case implied op row =>
    rw [Instr.mnemonic_of_row row] at writers
    simp [ImpliedOp.effect_v writers]
  case plp | rti => simp [Instr.mnemonic, vWriters] at writers
  case branch op off row => cases op.holds s.p <;> simp
  all_goals simp [raiseUnimplemented, setNZ]

theorem Runs.b_kept {i : Instr} {f : State → Result} (h : Runs i f) {s t : State} (ht : f s = .next t) :
    t.p.b = s.p.b := by
  cases h <;> obtain rfl := Host.Outcome.next.inj ht
  case branch op off row => cases op.holds s.p <;> simp
  all_goals simp [raiseUnimplemented, setNZ, unpack, returnFromException]

theorem Runs.d_kept {i : Instr} {f : State → Result} (h : Runs i f) {s t : State} (ht : f s = .next t)
    (writers : i.mnemonic ∉ dWriters) : t.p.d = s.p.d := by
  cases h <;> obtain rfl := Host.Outcome.next.inj ht
  case implied op row =>
    rw [Instr.mnemonic_of_row row] at writers
    simp [ImpliedOp.effect_d writers]
  case plp | rti => simp [Instr.mnemonic, dWriters] at writers
  case branch op off row => cases op.holds s.p <;> simp
  all_goals simp [raiseUnimplemented, setNZ]

theorem Runs.i_kept {i : Instr} {f : State → Result} (h : Runs i f) {s t : State} (ht : f s = .next t)
    (writers : i.mnemonic ∉ iWriters) : t.p.i = s.p.i := by
  cases h <;> obtain rfl := Host.Outcome.next.inj ht
  case cli | sei | plp | brk | rti => simp [Instr.mnemonic, iWriters] at writers
  case branch op off row => cases op.holds s.p <;> simp
  all_goals simp [raiseUnimplemented, setNZ]

theorem Runs.c_kept {i : Instr} {f : State → Result} (h : Runs i f) {s t : State} (ht : f s = .next t)
    (writers : i.mnemonic ∉ cWriters) : t.p.c = s.p.c := by
  cases h <;> obtain rfl := Host.Outcome.next.inj ht
  case read op o row =>
    rw [Instr.mnemonic_of_row row] at writers
    simp [ReadOp.effect_c writers]
  case rmw op m row | acc op shift row =>
    rw [Instr.mnemonic_of_row row] at writers
    simp [RewriteOp.apply_c writers]
  case implied op row =>
    rw [Instr.mnemonic_of_row row] at writers
    simp [ImpliedOp.effect_c writers]
  case plp | rti => simp [Instr.mnemonic, cWriters] at writers
  case branch op off row => cases op.holds s.p <;> simp
  all_goals simp [raiseUnimplemented, setNZ]

end Sys2Proof.Machine
end

section
/-! The obligations of 10_state.md about one instruction: its frames, and that D is inert. -/

namespace Sys2Proof.Machine

open Sys2Proof.Reference

/-- Settles O39: each register's frame, by the shape of the meaning. -/
theorem registerFrame : Obligations.RegisterFrame := fun i _ _ h =>
  have r := exec_runs i
  ⟨fun writers shifts => r.a_kept h writers shifts, fun writers => r.x_kept h writers, fun writers => r.y_kept h writers,
    fun writers => r.sp_kept h writers⟩

/-- Settles O40: each flag's frame, by the shape of the meaning. -/
theorem flagFrame : Obligations.FlagFrame := fun i _ _ h =>
  have r := exec_runs i
  ⟨fun writers => r.nz_kept h writers, fun writers => r.v_kept h writers, r.b_kept h, fun writers => r.d_kept h writers,
    fun writers => r.i_kept h writers, fun writers => r.c_kept h writers⟩

/-- Settles O41: what the host's inputs and the bus's decode are, the fault and PC, by the shape of the meaning. -/
theorem controlFrame : Obligations.ControlFrame := fun i s t h => by
  have r := exec_runs i
  obtain ⟨nmi, irq, attached⟩ := r.host_inputs_kept h
  obtain ⟨map, policy⟩ := r.decode_kept h
  exact ⟨nmi, irq, attached, map, policy, r.fault_kept h, r.pc_kept h⟩

/-! ### D is inert (R50, R239) -/

/-- D does not decide any effect of a class `read` instruction, and is carried through it. -/
theorem ReadOp.effect_flipD (op : ReadOp) (m : Byte) (s : State) : op.effect m (flipD s) = flipD (op.effect m s) := by
  cases op <;> rfl

theorem RewriteOp.apply_flipD (op : RewriteOp) (m : Byte) (s : State) :
    op.apply m (flipD s).p = ((op.apply m s.p).1, { (op.apply m s.p).2 with d := !(op.apply m s.p).2.d }) := by
  cases op <;> rfl

theorem ImpliedOp.effect_flipD {op : ImpliedOp} (h : op.mnemonic ∉ ["CLD", "SED", "PLP", "RTI", "PHP", "BRK"]) (s : State) :
    op.effect (flipD s) = flipD (op.effect s) := by
  cases op with
  | cld | sed => simp [ImpliedOp.mnemonic] at h
  | _ => rfl

theorem finish_flipD (s : State) (n : Nat) : finish (flipD s) n = mapNext flipD (finish s n) := rfl

theorem resolve_flipD (m : MemMode) (s : State) :
    resolve m (flipD s) = ⟨(resolve m s).ea, (resolve m s).crossed, flipD (resolve m s).state⟩ := by
  cases m <;> rfl

theorem readOperand_flipD (o : Operand) (s : State) :
    readOperand o (flipD s) = ⟨(readOperand o s).value, (readOperand o s).crossed, flipD (readOperand o s).state⟩ := by
  cases o with
  | imm v => rfl
  | mem m => simp only [readOperand, resolve_flipD]; rfl

/-- Every shape that neither writes nor pushes D carries it through. -/
theorem Runs.carries_d {i : Instr} {f : State → Result} (h : Runs i f)
    (hi : i.mnemonic ∉ ["CLD", "SED", "PLP", "RTI", "PHP", "BRK"]) (s : State) :
    f (flipD s) = mapNext flipD (f s) := by
  cases h
  case read op o row =>
    simp only [readClass, readOperand_flipD, op.effect_flipD, finish_flipD]
  case write reg m row =>
    simp only [writeClass, resolve_flipD]
    cases reg <;> rfl
  case rmw op m row =>
    simp only [rmwClass, resolve_flipD, op.apply_flipD]
    rfl
  case acc op shift row =>
    simp only [accClass, op.apply_flipD]
    rfl
  case branch op off row =>
    have hc : op.holds (flipD s).p = op.holds s.p := by cases op <;> rfl
    simp only [branchClass, hc]
    cases op.holds s.p <;> rfl
  case jump m row =>
    simp only [resolve_flipD]
    rfl
  case implied op row =>
    rw [Instr.mnemonic_of_row row] at hi
    simp only [ImpliedOp.effect_flipD hi, finish_flipD]
  case plp | rti | php | brk => simp [Instr.mnemonic] at hi
  all_goals rfl

/-- Settles O58, by the shape of the meaning. -/
theorem decimalIsInert : Obligations.DecimalIsInert := fun i s hi => (exec_runs i).carries_d hi s

end Sys2Proof.Machine
end

section
/-! What fetching an instruction and an interrupt sequence leave alone, and what the fetched instruction is. -/

namespace Sys2Proof.Machine

@[simp] theorem fetchInstr_p (s : State) : (fetchInstr s).state.p = s.p := by
  obtain ⟨n, b, h, -⟩ := fetchInstr_eq s; rw [h]
@[simp] theorem fetchInstr_cyc (s : State) : (fetchInstr s).state.cyc = s.cyc := by
  obtain ⟨n, b, h, -⟩ := fetchInstr_eq s; rw [h]
@[simp] theorem fetchInstr_nmiLatch (s : State) : (fetchInstr s).state.nmiLatch = s.nmiLatch := by
  obtain ⟨n, b, h, -⟩ := fetchInstr_eq s; rw [h]
@[simp] theorem fetchInstr_irqLine (s : State) : (fetchInstr s).state.irqLine = s.irqLine := by
  obtain ⟨n, b, h, -⟩ := fetchInstr_eq s; rw [h]
@[simp] theorem fetchInstr_fault (s : State) : (fetchInstr s).state.fault = s.fault := by
  obtain ⟨n, b, h, -⟩ := fetchInstr_eq s; rw [h]
@[simp] theorem fetchInstr_bus_mem (s : State) : (fetchInstr s).state.bus.mem = s.bus.mem := by
  obtain ⟨n, b, h, mem, -⟩ := fetchInstr_eq s; rw [h]; exact mem

/-- The fetched instruction is well-formed, has the byte at PC as its opcode, and has the bytes after it, as many as the
entry of the opcode asks for, as its operands (30_encoding.md R140, R160, R163, R164). -/
theorem fetchInstr_faithful (s : State) :
    (fetchInstr s).instr.wellFormed = true ∧ (fetchInstr s).instr.opcode = (fetchByte s).value ∧
    fetchBytes (buildOf (fetchByte s).value).operandBytes (fetchByte s).state =
      ((fetchInstr s).instr.operands, (fetchInstr s).state) := by
  have faithful := buildOf_faithful (fetchByte s).value
  unfold fetchInstr
  simp only []
  split
  · next i entry =>
    rw [entry] at faithful ⊢
    obtain ⟨wf, opcode, operands⟩ := faithful
    exact ⟨wf, opcode, by simp [Build.operandBytes, fetchBytes, operands]⟩
  · next f entry =>
    rw [entry] at faithful ⊢
    obtain ⟨wf, opcode, operands⟩ := faithful (fetchByte (fetchByte s).state).value
    exact ⟨wf, opcode, by simp [Build.operandBytes, fetchBytes, operands]⟩
  · next f entry =>
    rw [entry] at faithful ⊢
    obtain ⟨wf, opcode, operands⟩ := faithful (cat16 (fetchByte (fetchByte (fetchByte s).state).state).value
      (fetchByte (fetchByte s).state).value)
    exact ⟨wf, opcode, by simp [Build.operandBytes, fetchBytes, operands]⟩

theorem interruptSequence_p {kind : InterruptKind} {s t : State} (h : interruptSequence kind s = .next t) :
    t.p = { s.p with i := true } := by
  cases kind <;> obtain rfl := Host.Outcome.next.inj h <;> simp

theorem interruptSequence_iPoll {kind : InterruptKind} {s t : State} (h : interruptSequence kind s = .next t) :
    t.iPoll = true := by
  cases kind <;> obtain rfl := Host.Outcome.next.inj h <;> simp

theorem interruptSequence_cyc {kind : InterruptKind} {s t : State} (h : interruptSequence kind s = .next t) :
    s.cyc + 7 ≤ t.cyc := by
  cases kind <;> obtain rfl := Host.Outcome.next.inj h <;> simp

theorem interruptSequence_irqLine {kind : InterruptKind} {s t : State} (h : interruptSequence kind s = .next t) :
    t.irqLine = s.irqLine := by
  cases kind <;> obtain rfl := Host.Outcome.next.inj h <;> simp

theorem interruptSequence_fault {kind : InterruptKind} {s t : State} (h : interruptSequence kind s = .next t) :
    t.fault = s.fault := by
  cases kind <;> obtain rfl := Host.Outcome.next.inj h <;> simp

theorem interruptSequence_mem_wf {kind : InterruptKind} {s t : State} (h : interruptSequence kind s = .next t)
    (hs : s.bus.mem.wf = true) : t.bus.mem.wf = true := by
  cases kind <;> obtain rfl := Host.Outcome.next.inj h
  · simpa using takeException_wf false nmiVector s hs
  · simpa using takeException_wf false irqVector s hs

/-- The interrupt that is pending leaves no NMI latched: an NMI clears its latch, and an IRQ waits for it (R446, R451). -/
theorem interruptSequence_nmiLatch {kind : InterruptKind} {s t : State} (pending : pendingInterrupt s = some kind)
    (h : interruptSequence kind s = .next t) : t.nmiLatch = false := by
  cases kind with
  | nmi => obtain rfl := Host.Outcome.next.inj h; simp
  | irq =>
    obtain rfl := Host.Outcome.next.inj h
    cases latch : s.nmiLatch with
    | false => simp [latch]
    | true => simp [pendingInterrupt, latch] at pending

/-- An instruction that leaves no fault recorded is no unimplemented one. -/
theorem ne_unimplemented_of_fault {i : Instr} {s t : State} (h : exec i s = .next t) (ht : t.fault = none) :
    ∀ op, i ≠ .unimplemented op := by
  rintro op rfl
  obtain rfl := Host.Outcome.next.inj h
  simp [raiseUnimplemented] at ht

end Sys2Proof.Machine
end

section
/-! The machine invariant (O52, O53, O54): each part of it is kept by every instruction, so by a step, by reset, and by every
action of the host. -/

namespace Sys2Proof.Machine

/-- A well-formed instruction keeps the invariant: where it records the fault, it names an opcode R163 lists. -/
theorem exec_inv {i : Instr} {s t : State} (hi : i.wellFormed = true) (hs : s.Inv) (h : exec i s = .next t) : t.Inv := by
  obtain ⟨mem, brk, fault⟩ := hs
  have r := exec_runs i
  refine ⟨r.mem_wf h mem, (r.b_kept h).trans brk, ?_⟩
  by_cases unimplemented : ∃ op, i = .unimplemented op
  · obtain ⟨op, rfl⟩ := unimplemented
    obtain rfl := Host.Outcome.next.inj h
    rintro _ ⟨⟩
    exact hi
  · rw [r.fault_kept h (by simpa using unimplemented)]
    exact fault

theorem interruptSequence_inv {kind : InterruptKind} {s t : State} (hs : s.Inv) (h : interruptSequence kind s = .next t) :
    t.Inv := by
  obtain ⟨mem, brk, fault⟩ := hs
  refine ⟨interruptSequence_mem_wf h mem, ?_, ?_⟩
  · rw [interruptSequence_p h]; exact brk
  · rw [interruptSequence_fault h]; exact fault

theorem fetchInstr_inv {s : State} (hs : s.Inv) : (fetchInstr s).state.Inv := by
  simpa [State.Inv] using hs

theorem resetSequence_inv {s : State} (hs : s.Inv) : (resetSequence s).Inv := by
  obtain ⟨mem, -, fault⟩ := hs
  exact ⟨by simpa [resetSequence] using mem, by simp [resetSequence], by simpa [resetSequence] using fault⟩

/-- Settles O52: a step executes the fetched instruction, which is well-formed, or runs an interrupt sequence. -/
theorem stepKeepsInvariant : Obligations.StepKeepsInvariant := by
  intro s t hs h
  obtain ⟨-, h⟩ | ⟨-, -, kind, -, h⟩ := step_cases h
  · exact exec_inv (fetchInstr_faithful s).1 (fetchInstr_inv hs) h
  · exact interruptSequence_inv hs h

/-- Settles O53: both states list no memory, hold B = 0 and record no fault. -/
theorem invariantAtReset : Obligations.InvariantAtReset :=
  ⟨⟨rfl, rfl, fun _ h => nomatch h⟩, ⟨rfl, rfl, fun _ h => nomatch h⟩⟩

/-- Every action of the host keeps the invariant, given that a bus it attaches holds memory in canonical form. -/
theorem perform_inv {act : HostAction} {s t : State} (ok : HostActionOk act) (hs : s.Inv) (h : perform act s = .next t) :
    t.Inv := by
  cases act with
  | connectBus b => obtain rfl := Host.Outcome.next.inj h; exact ⟨ok, hs.2⟩
  | requestNmi | requestIrq | clearIrq | setPc a => obtain rfl := Host.Outcome.next.inj h; exact hs
  | reset =>
    cases attached : s.busAttached <;> simp only [perform, hostReset, attached] at h
    · cases h
    · obtain rfl := Host.Outcome.next.inj h; exact resetSequence_inv hs
  | step => exact stepKeepsInvariant s t hs h

/-- Settles O54, by induction on how the host brings the state about. -/
theorem reachableStatesMeetInvariant : Obligations.ReachableStatesMeetInvariant := by
  refine ⟨fun act s t ok hs h => perform_inv ok hs h, fun s reach => ?_⟩
  induction reach with
  | powerOn => exact invariantAtReset.2
  | action s t act _ ok h ih => exact perform_inv ok ih h

end Sys2Proof.Machine
end

section
/-! The obligations of 10_state.md about a step: what the next boundary samples, where nothing happens, how CYC grows, and
whose the interrupt inputs are. -/

namespace Sys2Proof.Machine

open Sys2Proof.Reference

/-- After CLI, SEI and PLP the next boundary samples the I from before them (R62). -/
theorem exec_poll_before {i : Instr} {s t : State} (h : exec i s = .next t) (delayed : i ∈ [Instr.cli, .sei, .plp]) :
    t.iPoll = s.p.i := by
  simp only [List.mem_cons, List.not_mem_nil, or_false] at delayed
  obtain rfl | rfl | rfl := delayed <;> obtain rfl := Host.Outcome.next.inj h <;> rfl

/-- A state with a pending interrupt executes no instruction. -/
theorem not_executes_of_pending {s : State} {kind : InterruptKind} (pending : pendingInterrupt s = some kind) :
    ¬ s.Executes := by
  rintro ⟨-, -, idle⟩
  rw [(pendingInterrupt_eq_none s).2 idle] at pending
  cases pending

/-- Settles O45: an executed instruction, by its poll rule; an interrupt sequence leaves I and the polled value set. -/
theorem pollRule : Obligations.PollRule := by
  intro s t h noFault
  obtain ⟨executes, h⟩ | ⟨-, -, kind, pending, h⟩ := step_cases h
  · refine ⟨fun _ delayed => ?_, fun other => ?_⟩
    · simpa using exec_poll_before h delayed
    · exact (exec_runs _).poll_after h (fun delayed => other ⟨executes, delayed⟩) (ne_unimplemented_of_fault h noFault)
  · refine ⟨fun executes => absurd executes (not_executes_of_pending pending), fun _ => ?_⟩
    rw [interruptSequence_iPoll h, interruptSequence_p h]

/-- A step with a transition starts with no fault recorded. -/
theorem fault_of_step {s t : State} (h : step s = .next t) : s.fault = none := by
  obtain ⟨⟨-, noFault, -⟩, -⟩ | ⟨-, noFault, -⟩ := step_cases h
  · exact noFault
  · exact noFault

/-- No action of the host clears a recorded fault (R440). -/
theorem perform_fault {act : HostAction} {s t : State} {f : CoreFault} (hf : s.fault = some f)
    (h : perform act s = .next t) : t.fault = some f := by
  cases act with
  | connectBus b | requestNmi | requestIrq | clearIrq | setPc a => obtain rfl := Host.Outcome.next.inj h; exact hf
  | reset =>
    cases attached : s.busAttached <;> simp only [perform, hostReset, attached] at h
    · cases h
    · obtain rfl := Host.Outcome.next.inj h; simpa [resetSequence] using hf
  | step => simp [fault_of_step h] at hf

/-- A run from a recorded fault does not reach its end: the state is no normal end, and no step leads on (R440, R78). -/
theorem runUntil_of_fault {s : State} {f : CoreFault} (hf : s.fault = some f) (runEnd : Nat → State → Bool)
    (performed fuel : Nat) : runUntil runEnd performed fuel s = none := by
  cases fuel with
  | zero => simp [runUntil, hf]
  | succ fuel =>
    cases h : step s with
    | next t => simp [fault_of_step h] at hf
    | fault r | refused r => simp [runUntil, hf, h]

/-- Settles O49: a recorded fault and a missing bus each leave `step` without a transition. -/
theorem whereNothingHappens : Obligations.WhereNothingHappens := by
  refine ⟨fun s f hf => ⟨fun attached => ?_, fun act t h => perform_fault hf h, runUntil_of_fault hf⟩, fun s detached => ?_⟩
  · simp [step, attached, hf]
  · simp [step, hostReset, detached]

/-- What a step does to CYC: at least two cycles more, or none with the fault recorded (R181, R440). -/
theorem step_cyc {s t : State} (h : step s = .next t) :
    (t.fault = none ∧ s.cyc + 2 ≤ t.cyc) ∨ (t.fault ≠ none ∧ t.cyc = s.cyc) := by
  have noFault := fault_of_step h
  obtain ⟨-, h⟩ | ⟨-, -, kind, -, h⟩ := step_cases h
  · by_cases unimplemented : ∃ op, (fetchInstr s).instr = .unimplemented op
    · obtain ⟨op, e⟩ := unimplemented
      rw [e] at h
      obtain rfl := Host.Outcome.next.inj h
      exact .inr ⟨by simp [raiseUnimplemented], by simp [raiseUnimplemented]⟩
    · have other : ∀ op, (fetchInstr s).instr ≠ .unimplemented op := by simpa using unimplemented
      have r := exec_runs (fetchInstr s).instr
      exact .inl ⟨by simpa [noFault] using r.fault_kept h other, by simpa using r.two_cycles h other⟩
  · have := interruptSequence_cyc h
    exact .inl ⟨(interruptSequence_fault h).trans noFault, by omega⟩

/-- Settles O55: the returned count is the difference of CYC, which `step_cyc` bounds. -/
theorem cyclesOnlyGrow : Obligations.CyclesOnlyGrow := by
  refine ⟨fun s t h => ?_, fun s stuck => stepCycles_of_no_step stuck⟩
  have count := stepCycles_of_next h
  obtain ⟨noFault, grows⟩ | ⟨faults, same⟩ := step_cyc h
  · refine ⟨fun _ => ⟨grows, t.cyc - s.cyc, by simpa [noFault] using count, by omega⟩, fun faults => absurd noFault faults⟩
  · refine ⟨fun noFault => absurd noFault faults, fun _ => ⟨same, ?_⟩⟩
    rw [count, if_pos (Option.isSome_iff_ne_none.2 faults)]

/-- Settles O57: an executed instruction changes neither input and starts with no NMI latched; an interrupt sequence
leaves none. -/
theorem interruptInputsAreTheHosts : Obligations.InterruptInputsAreTheHosts := by
  refine ⟨fun s t h => ?_, fun s a b => ⟨rfl, rfl, rfl, rfl, rfl⟩⟩
  obtain ⟨⟨-, -, idle, -⟩, h⟩ | ⟨-, -, kind, pending, h⟩ := step_cases h
  · obtain ⟨nmi, irq, -⟩ := (exec_runs _).host_inputs_kept h
    exact ⟨by simpa using irq, by simpa [idle] using nmi⟩
  · exact ⟨interruptSequence_irqLine h, interruptSequence_nmiLatch pending h⟩

/-- Settles O51: the reset vector of the flat bus with nothing listed reads 0x0000 (R77, R500). -/
theorem resetFromPowerOn : Obligations.ResetFromPowerOn :=
  ⟨rfl, rfl, rfl, rfl, rfl, rfl, rfl, rfl, rfl, rfl, rfl, fun _ => rfl⟩

end Sys2Proof.Machine
end

section
/-! The trace record (10_state.md R76): the bytes it shows are those a run of fetches reads from PC on. -/

namespace Sys2Proof.Machine

open Sys2Proof.Reference

/-- Fetching `m` bytes and then `n` more is fetching `m + n` of them. -/
theorem fetchBytes_add (m n : Nat) (s : State) :
    fetchBytes (m + n) s =
      ((fetchBytes m s).1 ++ (fetchBytes n (fetchBytes m s).2).1, (fetchBytes n (fetchBytes m s).2).2) := by
  induction m generalizing s with
  | zero => simp [fetchBytes]
  | succ m ih => simp [Nat.succ_add, fetchBytes, ih]

theorem fetchBytes_length (n : Nat) (s : State) : (fetchBytes n s).1.length = n := by
  induction n generalizing s with
  | zero => rfl
  | succ n ih => simp [fetchBytes, ih]

/-- A row's instruction takes no more bytes than its mode is long (R141): one less for JSR, which fetches the last itself. -/
theorem opcodeTable_operandBytes_lt : ∀ r ∈ opcodeTable, r.build.operandBytes < r.mode.length := by decide +kernel

/-- The opcode, the operands and the bytes after them, up to the length of the mode, are what so many fetches read. -/
theorem fetchBytes_mode_length {s : State} {r : Row} (row : (fetchInstr s).instr.row = some r) :
    (fetchBytes r.mode.length s).1 = (fetchInstr s).instr.opcode :: ((fetchInstr s).instr.operands ++
      (fetchBytes (r.mode.length - (encode (fetchInstr s).instr).length) (fetchInstr s).state).1) := by
  obtain ⟨-, opcode, operands⟩ := fetchInstr_faithful s
  rw [Instr.row, opcode] at row
  have build : buildOf (fetchByte s).value = r.build := by simp [buildOf, row]
  rw [build] at operands
  have count : (fetchInstr s).instr.operands.length = r.build.operandBytes := by
    simpa [operands] using fetchBytes_length r.build.operandBytes (fetchByte s).state
  have fits := opcodeTable_operandBytes_lt r (findRow_some row).1
  have total : r.mode.length =
      r.build.operandBytes + (r.mode.length - (encode (fetchInstr s).instr).length) + 1 := by
    simp only [encode, List.length_cons, count]; omega
  conv => lhs; rw [total]
  simp [fetchBytes, fetchBytes_add, operands, opcode]

/-- The guard of the trace record is that the step executes an instruction (R76). -/
theorem traceRecord_guard (s : State) :
    (s.busAttached && s.fault.isNone && (pendingInterrupt s).isNone) = true ↔ s.Executes := by
  simp [State.Executes, pendingInterrupt_eq_none, and_assoc]

/-- A branch resolves to PC and its signed offset, mod 65536 (R155). -/
theorem resolvedAddress_rel (b : Byte) (s : State) :
    resolvedAddress .rel [b] s = some (BitVec.ofInt 16 (s.pc.toNat + b.toInt)) := by
  simp only [resolvedAddress, branchTarget, BitVec.ofInt_add, BitVec.ofInt_natCast, BitVec.ofNat_toNat, BitVec.setWidth_eq]
  rfl

/-- Settles O60: the record is that of a state that executes an instruction with a row, and `fetchBytes_mode_length` says
what bytes it shows. -/
theorem traceRecordContents : Obligations.TraceRecordContents := by
  refine ⟨fun s r executes row => ?_, fun s idle => ?_, fun s unimplemented => ?_, fun b lo hi bytes u => ?_,
    fun _ _ => rfl⟩
  · refine ⟨_, by simp only [traceRecord, (traceRecord_guard s).2 executes, row]; rfl, rfl,
      (fetchBytes_mode_length row).symm, rfl, rfl, rfl, rfl, rfl, rfl, rfl, ?_, rfl⟩
    simp [State.status, pack, packed]
  · rw [traceRecord, if_neg (mt (traceRecord_guard s).1 idle)]
  · have noRow : (fetchInstr s).instr.row = none := by
      rw [Instr.row, (fetchInstr_faithful s).2.1]
      exact Laws.rowOf_unimplemented (memRead s s.pc).value (by simpa [isUnimplemented] using unimplemented)
    simp [traceRecord, noRow]
  · exact ⟨by simp [resolvedAddress], by simp [resolvedAddress], by simp [resolvedAddress], resolvedAddress_rel b u⟩

end Sys2Proof.Machine
end

section
/-! Bus accesses by the place of their address: the rules the obligations of 20_memory.md are settled with. -/

namespace Sys2Proof.Machine

/-- A byte that memory holds is what a read of its address gives. -/
theorem Bus.read_of_peek {b : Bus} {a : Word} {v : Byte} (h : b.peek a = some v) : (b.read a).1 = v := by
  unfold Bus.peek at h
  unfold Bus.read
  split at h
  · next k place => simpa [place, Bus.readMemory] using h
  · next k place =>
    cases written : b.romWritten
    · simpa [place, written, Bus.readMemory] using h
    · simp [written] at h
  all_goals cases h

/-- After a write to RAM, a RAM address reads as the byte written if it stands for the same cell, else as before. -/
theorem Bus.read_write_ram {b : Bus} {a c : Word} {k j : Nat} (wf : b.mem.wf = true) (ha : b.place a = some (.ram, k))
    (hc : b.place c = some (.ram, j)) (cyc : Nat) (v : Byte) :
    ((b.write cyc a v).1.read c).1 = if j = k then v else (b.read c).1 := by
  have place : (b.write cyc a v).1.place c = some (.ram, j) := by rw [Bus.write_place, hc]
  have mem : (b.write cyc a v).1.mem = b.mem.write k v := by simp [Bus.write, ha]
  simp only [Bus.read, place, hc, Bus.readMemory, mem]
  split
  · next e => rw [e, Memory.read_write_self wf]
  · next ne => exact Memory.read_write_ne v (Ne.symm ne) _

/-- No access but a write to a device register reports a stall (log 5). -/
theorem Bus.write_stall_of_not_device {b : Bus} {a : Word} (h : ∀ k, b.place a ≠ some (.device, k)) (cyc : Nat)
    (v : Byte) : (b.write cyc a v).2 = 0 := by
  unfold Bus.write
  split
  · rfl
  · next k place => exact absurd place (h k)
  · rfl
  · rfl

theorem stallCycles_mem (d : DmaStall) : stallCycles d ∈ [0, 513, 514] := by
  cases d <;> simp [stallCycles]

/-- On the flat bus every address is a RAM cell of its own (R105). -/
theorem Bus.place_flatMap {b : Bus} (h : b.map = flatMap) (addr : Word) : b.place addr = some (.ram, addr.toNat) := by
  have := addr.isLt
  simp [Bus.place, h, flatMap, locate, Nat.mod_eq_of_lt this, this]

end Sys2Proof.Machine
end

section
/-! The obligations of 20_memory.md about the bus (R103 to R106). -/

namespace Sys2Proof.Machine

/-- Settles O6: each address of the flat bus is a RAM cell of its own. -/
theorem flatBusIsAnArray : Obligations.FlatBusIsAnArray := by
  intro b cyc a c v flat wf
  have place := Bus.place_flatMap flat
  refine ⟨Bus.write_stall_of_not_device (by simp [place a]) cyc v, ?_, b.read_mem c⟩
  simpa [BitVec.toNat_inj] using Bus.read_write_ram wf (place a) (place c) cyc v

/-- Settles O8, by the four regions of the console's map. -/
theorem consoleRegionOfEveryAddress : Obligations.ConsoleRegionOfEveryAddress := by
  intro b a console
  have top := a.isLt
  rw [Bus.place, console, consoleMap]
  generalize a.toNat = n at top
  by_cases ram : n < 0x2000
  · simp [locate, ram]
  by_cases picture : n < 0x4000
  · have mirrored : (n - 0x2000) % 8 = n % 8 := by omega
    simp [locate, ram, picture, not_lt.1 ram, mirrored]
  by_cases registers : n < 0x4020
  · have own : 0x4000 + (n - 0x4000) % 0x20 = n := by omega
    simp [locate, ram, picture, registers, not_lt.1 picture, own]
  · have own : 0x4020 + (n - 0x4020) % 0xBFE0 = n := by omega
    simp [locate, ram, picture, registers, top, not_lt.1 registers, own]

/-- Settles O7: below 0x2000 the cell of an address is the address mod 0x0800. -/
theorem consoleRamIsMirrored : Obligations.ConsoleRamIsMirrored := by
  intro b cyc a c v console wf ha hc
  have place : ∀ {e : Word}, e.toNat < 0x2000 → b.place e = some (.ram, e.toNat % 0x0800) := fun {e} he => by
    rw [consoleRegionOfEveryAddress b e console, if_pos he]
  exact Bus.read_write_ram wf (place ha) (place hc) cyc v

/-- Settles O9: an access that nothing answers drives the open-bus value, or the byte written, and touches no memory. -/
theorem openBus : Obligations.OpenBus := by
  intro b cyc a v undriven
  have value : (b.read a).1 = b.openValue := by simp [Bus.read, undriven]
  exact ⟨value.trans rfl, b.read_mem a, by simp [Bus.write, undriven],
    Bus.write_stall_of_not_device (by simp [undriven]) cyc v⟩

/-- Settles O10: only a device register's write reports a stall, and that is one of R104's. -/
theorem stallIsATransfer : Obligations.StallIsATransfer := by
  refine fun b cyc a v => ⟨?_, fun h => Bus.write_stall_of_not_device h cyc v⟩
  by_cases device : ∃ k, b.place a = some (.device, k)
  · obtain ⟨k, place⟩ := device
    simpa [Bus.write, place] using stallCycles_mem (Config.dmaStall b.accesses (BitVec.ofNat 16 k) v cyc)
  · simp [Bus.write_stall_of_not_device (not_exists.1 device) cyc v]

end Sys2Proof.Machine
end

section
/-! The stack (R110, R111): its addresses in natural-number arithmetic, and what a push leaves in memory where the stack
page is RAM. -/

namespace Sys2Proof.Machine

theorem stackAddr_eq (sp : Byte) : stackAddr sp = BitVec.ofNat 16 (0x0100 + sp.toNat) := by
  apply BitVec.eq_of_toNat_eq
  simp [stackAddr, zext16_toNat]

/-- Settles O11: `push` and `pull` are the rules' two accesses, with SP mod 256 in natural-number arithmetic. -/
theorem pushAndPull : Obligations.PushAndPull := by
  intro s v
  have next : s.sp + 1#8 = BitVec.ofNat 8 (s.sp.toNat + 1) := by bv_omega
  have prev : s.sp - 1#8 = BitVec.ofNat 8 (s.sp.toNat + 255) := by bv_omega
  refine ⟨?_, ?_⟩
  · rw [← stackAddr_eq, ← prev]
    rfl
  · have addr : stackAddr (s.sp + 1#8) = BitVec.ofNat 16 (0x0100 + (s.sp.toNat + 1) % 256) := by
      rw [stackAddr_eq, next, BitVec.toNat_ofNat]
    rw [← addr, ← next]
    rfl

/-- Two addresses of a stack page in RAM with different stack pointers are apart. -/
theorem Bus.StackInRam.apart {b : Bus} (h : b.StackInRam) {v w : Byte} (ne : v ≠ w) :
    b.Apart (stackAddr v) (stackAddr w) := by
  obtain ⟨ram, cells⟩ := h
  refine ⟨fun e => ne (cells v w e), fun rom => ?_⟩
  obtain ⟨k, place⟩ := ram v
  simp [Bus.inRom, place] at rom

/-- Whether the stack page is RAM is a matter of the address decode alone. -/
theorem Bus.stackInRam_congr {b c : Bus} (h : c.map = b.map) : c.StackInRam ↔ b.StackInRam := by
  simp [Bus.StackInRam, Bus.cell, Bus.place, h]

/-- A pushed byte is held where SP pointed. -/
theorem push_peek_self {s : State} (wf : s.bus.mem.wf = true) (stack : s.bus.StackInRam) (v : Byte) :
    (push s v).state.bus.peek (stackAddr s.sp) = some v := by
  obtain ⟨k, place⟩ := stack.1 s.sp
  exact Bus.peek_write_self s.bus s.cyc (stackAddr s.sp) v wf place

/-- The high byte of a pushed word is held where SP pointed: the second push goes to another cell. -/
theorem pushWord_peek_high {s : State} (wf : s.bus.mem.wf = true) (stack : s.bus.StackInRam) (v : Word) :
    (pushWord s v).state.bus.peek (stackAddr s.sp) = some (hi8 v) := by
  have ne : s.sp ≠ s.sp - 1#8 := by bv_omega
  have apart : (push s (hi8 v)).state.bus.Apart (stackAddr s.sp) (stackAddr (s.sp - 1#8)) := by
    simpa using stack.apart ne
  exact (push_peek_apart _ (lo8 v) _ apart).trans (push_peek_self wf stack (hi8 v))

/-- The low byte of a pushed word is held one below where SP pointed, mod 256. -/
theorem pushWord_peek_low {s : State} (wf : s.bus.mem.wf = true) (stack : s.bus.StackInRam) (v : Word) :
    (pushWord s v).state.bus.peek (stackAddr (s.sp - 1#8)) = some (lo8 v) :=
  push_peek_self (push_wf s (hi8 v) wf) ((Bus.stackInRam_congr (push_bus_map s (hi8 v))).2 stack) (lo8 v)

/-- A word pushed leaves every byte apart from its two cells as it was. -/
theorem pushWord_peek_apart {s : State} {a : Word} (high : s.bus.Apart a (stackAddr s.sp))
    (low : s.bus.Apart a (stackAddr (s.sp - 1#8))) (v : Word) :
    (pushWord s v).state.bus.peek a = s.bus.peek a :=
  (push_peek_apart _ (lo8 v) a (by simpa using low)).trans (push_peek_apart s (hi8 v) a high)

/-- JSR goes to the byte its pushes leave at PC, and the low byte it carries (R361). -/
theorem exec_jsr_pc {s : State} {v : Byte} (lo : Byte) (h : (pushWord s s.pc).state.bus.peek s.pc = some v) :
    ∃ t, exec (.jsr lo) s = .next t ∧ t.pc = cat16 v lo :=
  ⟨_, rfl, congrArg (cat16 · lo) (Bus.read_of_peek h)⟩

/-- Settles O30: both pushes come before the fetch at PC, and each pushed byte is still held then. -/
theorem jsrReadsPushedByte : Obligations.JsrReadsPushedByte := by
  intro lo s inv stack
  refine ⟨fun atHigh => exec_jsr_pc lo ?_, fun atLow => exec_jsr_pc lo ?_⟩
  · have held := pushWord_peek_high inv.1 stack s.pc
    rwa [← atHigh] at held
  · have held := pushWord_peek_low inv.1 stack s.pc
    rwa [← atLow] at held

end Sys2Proof.Machine
end

section
/-! Stores to the effective address (R156, R203 to R205): what the classes `write` and `rmw` leave in memory. -/

namespace Sys2Proof.Machine

open Sys2Proof.Reference

/-- Class `write` leaves every byte alone that is apart from the effective address. -/
theorem writeClass_peek_apart {m : MemMode} {n : Nat} {v : Byte} {s t : State} (h : writeClass m n v s = .next t)
    {a : Word} (apart : s.bus.Apart a (resolve m s).ea) : t.bus.peek a = s.bus.peek a := by
  obtain rfl := Host.Outcome.next.inj h
  simpa using memWrite_peek_apart (resolve m s).state (resolve m s).ea a v (by simpa using apart)

/-- Class `rmw` leaves every byte alone that is apart from the effective address. -/
theorem rmwClass_peek_apart {m : MemMode} {n : Nat} {f : Byte → Flags → Byte × Flags} {s t : State}
    (h : rmwClass m n f s = .next t) {a : Word} (apart : s.bus.Apart a (resolve m s).ea) :
    t.bus.peek a = s.bus.peek a := by
  obtain rfl := Host.Outcome.next.inj h
  simpa using memWrite_peek_apart (memRead (resolve m s).state (resolve m s).ea).state (resolve m s).ea a _
    (by simpa using apart)

/-- Class `write` at a RAM address leaves the byte there. -/
theorem writeClass_peek_self {m : MemMode} {n : Nat} {v : Byte} {s t : State} (h : writeClass m n v s = .next t)
    {k : Nat} (wf : s.bus.mem.wf = true) (place : s.bus.place (resolve m s).ea = some (.ram, k)) :
    t.bus.peek (resolve m s).ea = some v := by
  obtain rfl := Host.Outcome.next.inj h
  exact Bus.peek_write_self (resolve m s).state.bus _ _ v (by simpa using wf) (by simpa [Bus.place] using place)

/-- Every form of STA, STX and STY is a class `write` instruction at its place, with its register's byte (R203 to R205). -/
theorem exec_storeForms (b : Byte) (w : Word) (s : State) :
    ∀ store ∈ [(staForms b w, s.a), (stxForms b w, s.x), (styForms b w, s.y)], ∀ f ∈ store.1,
      exec f.instr s = writeClass f.place f.cycles store.2 s := by
  simp only [List.forall_mem_cons, List.not_mem_nil, staForms, stxForms, styForms, false_implies, implies_true,
    and_true]
  exact ⟨⟨rfl, rfl, rfl, rfl, rfl, rfl, rfl⟩, ⟨rfl, rfl, rfl⟩, rfl, rfl, rfl⟩

/-- Settles O17: every form is a class `write` instruction, whose pointer reads change no memory. -/
theorem storedByteIsHeld : Obligations.StoredByteIsHeld := by
  intro b w s k inv store hstore f hf place
  rw [exec_storeForms b w s store hstore f hf]
  exact ⟨_, rfl, writeClass_peek_self rfl inv.1 place, fun a apart => writeClass_peek_apart rfl apart⟩

end Sys2Proof.Machine
end

section
/-! The memory frame (R102, R156): what an instruction stores, and that it changes no other byte. -/

namespace Sys2Proof.Machine

/-- A documented instruction of class `write` or `rmw` has an effective address, and changes no byte apart from it. -/
theorem exec_store_peek_apart {i : Instr} (h : i.cls = some .write ∨ i.cls = some .rmw)
    (documented : ∀ op, i ≠ .unimplemented op) : ∃ m, i.memMode = some m ∧
    ∀ {s t : State}, exec i s = .next t → ∀ {a : Word}, s.bus.Apart a (resolve m s).ea → t.bus.peek a = s.bus.peek a := by
  cases i with
  | staZp | staZpx | staAbs | staAbsx | staAbsy | staIndx | staIndy | stxZp | stxZpy | stxAbs | styZp | styZpx
  | styAbs =>
    exact ⟨_, by simp [Instr.memMode, Instr.operands], writeClass_peek_apart⟩
  | incZp | incZpx | incAbs | incAbsx | decZp | decZpx | decAbs | decAbsx | aslZp | aslZpx | aslAbs | aslAbsx
  | lsrZp | lsrZpx | lsrAbs | lsrAbsx | rolZp | rolZpx | rolAbs | rolAbsx | rorZp | rorZpx | rorAbs | rorAbsx =>
    exact ⟨_, by simp [Instr.memMode, Instr.operands], rmwClass_peek_apart⟩
  | unimplemented op => exact absurd rfl (documented op)
  | _ => simp [Instr.cls] at h

/-- What a class `write` or `rmw` instruction stores to is its effective address. -/
theorem storeAddresses_of_memMode {i : Instr} {m : MemMode} (h : i.cls = some .write ∨ i.cls = some .rmw)
    (mode : i.memMode = some m) (s : State) : storeAddresses i s = [(resolve m s).ea] := by
  obtain cls | cls := h <;> simp [storeAddresses, cls, mode]

@[simp] theorem storeAddresses_pha (s : State) : storeAddresses .pha s = [stackAddr s.sp] := by
  simp [storeAddresses, Instr.cls]
@[simp] theorem storeAddresses_php (s : State) : storeAddresses .php s = [stackAddr s.sp] := by
  simp [storeAddresses, Instr.cls]
@[simp] theorem storeAddresses_jsr (lo : Byte) (s : State) :
    storeAddresses (.jsr lo) s = [stackAddr s.sp, stackAddr (s.sp - 1#8)] := by
  simp [storeAddresses, Instr.cls]
@[simp] theorem storeAddresses_brk (s : State) :
    storeAddresses .brk s = [stackAddr s.sp, stackAddr (s.sp - 1#8), stackAddr (s.sp - 2#8)] := by
  simp [storeAddresses, Instr.cls]

/-- Taking an exception changes no byte apart from the three it pushes. -/
theorem takeException_peek_apart {s : State} {a : Word} (high : s.bus.Apart a (stackAddr s.sp))
    (low : s.bus.Apart a (stackAddr (s.sp - 1#8))) (status : s.bus.Apart a (stackAddr (s.sp - 2#8))) (brk : Bool)
    (vector : Word) : (takeException brk vector s).state.bus.peek a = s.bus.peek a := by
  have third : s.sp - 1#8 - 1#8 = s.sp - 2#8 := by bv_omega
  have pushed := push_peek_apart (pushWord s s.pc).state (pack brk s.p) a (by simpa [third] using status)
  simpa [takeException] using pushed.trans (pushWord_peek_apart high low s.pc)

/-- An instruction of another class than `write` and `rmw` changes no byte apart from those it pushes. -/
theorem Runs.peek_apart {i : Instr} {f : State → Result} (h : Runs i f) {s t : State} (ht : f s = .next t)
    (other : ¬ (i.cls = some .write ∨ i.cls = some .rmw)) {a : Word}
    (apart : ∀ e ∈ storeAddresses i s, s.bus.Apart a e) : t.bus.peek a = s.bus.peek a := by
  cases h <;> obtain rfl := Host.Outcome.next.inj ht
  case write reg m row | rmw op m row => simp [Instr.cls, row] at other
  case pha | php => simpa using push_peek_apart s _ a (by simpa using apart)
  case jsr lo =>
    obtain ⟨high, low⟩ : _ ∧ _ := by simpa using apart
    simpa using pushWord_peek_apart high low s.pc
  case brk =>
    obtain ⟨high, low, status⟩ : _ ∧ _ ∧ _ := by simpa using apart
    simpa using takeException_peek_apart (s := (fetchByte s).state) (by simpa using high) (by simpa using low)
      (by simpa using status) true irqVector
  case branch op off row => cases op.holds s.p <;> simp
  all_goals simp [raiseUnimplemented]

/-- Settles O42: an unimplemented opcode only records the fault, a store changes its effective address, and any other
instruction what it pushes, by the shape of its meaning. -/
theorem memoryFrame : Obligations.MemoryFrame := by
  intro i s t run a apart
  by_cases unimplemented : ∃ op, i = .unimplemented op
  · obtain ⟨op, rfl⟩ := unimplemented
    obtain rfl := Host.Outcome.next.inj run
    rfl
  by_cases store : i.cls = some .write ∨ i.cls = some .rmw
  · obtain ⟨m, mode, frame⟩ := exec_store_peek_apart store (not_exists.1 unimplemented)
    exact frame run (apart _ (by simp [storeAddresses_of_memMode store mode]))
  · exact (exec_runs i).peek_apart run store apart

end Sys2Proof.Machine
end

section
/-! The decoder and the encoder are inverse to one another (30_encoding.md R140, R160, R170). -/

namespace Sys2Proof

open Sys2Proof.Laws

theorem decode_plain {op : Byte} {i : Instr} (entry : buildOf op = .plain i) (rest : List Byte) :
    decode (op :: rest) = .ok (i, rest) := by
  simp [decode, entry]

theorem decode_byte {op : Byte} {f : Byte → Instr} (entry : buildOf op = .byte f) (b : Byte) (rest : List Byte) :
    decode (op :: b :: rest) = .ok (f b, rest) := by
  simp [decode, entry]

theorem decode_word {op : Byte} {f : Word → Instr} (entry : buildOf op = .word f) (lo hi : Byte) (rest : List Byte) :
    decode (op :: lo :: hi :: rest) = .ok (f (cat16 hi lo), rest) := by
  simp [decode, entry]

/-- The family BuiltByRow covers every instruction: each member is the law of one constructor. -/
theorem builtByRow (i : Instr) : BuiltByRow.Statement i := by
  cases i
  exacts [BuiltByRow.ldaImm _, BuiltByRow.ldaZp _, BuiltByRow.ldaZpx _, BuiltByRow.ldaAbs _, BuiltByRow.ldaAbsx _,
    BuiltByRow.ldaAbsy _, BuiltByRow.ldaIndx _, BuiltByRow.ldaIndy _, BuiltByRow.ldxImm _, BuiltByRow.ldxZp _,
    BuiltByRow.ldxZpy _, BuiltByRow.ldxAbs _, BuiltByRow.ldxAbsy _, BuiltByRow.ldyImm _, BuiltByRow.ldyZp _,
    BuiltByRow.ldyZpx _, BuiltByRow.ldyAbs _, BuiltByRow.ldyAbsx _, BuiltByRow.staZp _, BuiltByRow.staZpx _,
    BuiltByRow.staAbs _, BuiltByRow.staAbsx _, BuiltByRow.staAbsy _, BuiltByRow.staIndx _, BuiltByRow.staIndy _,
    BuiltByRow.stxZp _, BuiltByRow.stxZpy _, BuiltByRow.stxAbs _, BuiltByRow.styZp _, BuiltByRow.styZpx _,
    BuiltByRow.styAbs _, BuiltByRow.tax, BuiltByRow.tay, BuiltByRow.tsx, BuiltByRow.txa, BuiltByRow.txs,
    BuiltByRow.tya, BuiltByRow.adcImm _, BuiltByRow.adcZp _, BuiltByRow.adcZpx _, BuiltByRow.adcAbs _,
    BuiltByRow.adcAbsx _, BuiltByRow.adcAbsy _, BuiltByRow.adcIndx _, BuiltByRow.adcIndy _, BuiltByRow.sbcImm _,
    BuiltByRow.sbcZp _, BuiltByRow.sbcZpx _, BuiltByRow.sbcAbs _, BuiltByRow.sbcAbsx _, BuiltByRow.sbcAbsy _,
    BuiltByRow.sbcIndx _, BuiltByRow.sbcIndy _, BuiltByRow.andImm _, BuiltByRow.andZp _, BuiltByRow.andZpx _,
    BuiltByRow.andAbs _, BuiltByRow.andAbsx _, BuiltByRow.andAbsy _, BuiltByRow.andIndx _, BuiltByRow.andIndy _,
    BuiltByRow.oraImm _, BuiltByRow.oraZp _, BuiltByRow.oraZpx _, BuiltByRow.oraAbs _, BuiltByRow.oraAbsx _,
    BuiltByRow.oraAbsy _, BuiltByRow.oraIndx _, BuiltByRow.oraIndy _, BuiltByRow.eorImm _, BuiltByRow.eorZp _,
    BuiltByRow.eorZpx _, BuiltByRow.eorAbs _, BuiltByRow.eorAbsx _, BuiltByRow.eorAbsy _, BuiltByRow.eorIndx _,
    BuiltByRow.eorIndy _, BuiltByRow.bitZp _, BuiltByRow.bitAbs _, BuiltByRow.cmpImm _, BuiltByRow.cmpZp _,
    BuiltByRow.cmpZpx _, BuiltByRow.cmpAbs _, BuiltByRow.cmpAbsx _, BuiltByRow.cmpAbsy _, BuiltByRow.cmpIndx _,
    BuiltByRow.cmpIndy _, BuiltByRow.cpxImm _, BuiltByRow.cpxZp _, BuiltByRow.cpxAbs _, BuiltByRow.cpyImm _,
    BuiltByRow.cpyZp _, BuiltByRow.cpyAbs _, BuiltByRow.incZp _, BuiltByRow.incZpx _, BuiltByRow.incAbs _,
    BuiltByRow.incAbsx _, BuiltByRow.decZp _, BuiltByRow.decZpx _, BuiltByRow.decAbs _, BuiltByRow.decAbsx _,
    BuiltByRow.inx, BuiltByRow.iny, BuiltByRow.dex, BuiltByRow.dey, BuiltByRow.aslAcc, BuiltByRow.aslZp _,
    BuiltByRow.aslZpx _, BuiltByRow.aslAbs _, BuiltByRow.aslAbsx _, BuiltByRow.lsrAcc, BuiltByRow.lsrZp _,
    BuiltByRow.lsrZpx _, BuiltByRow.lsrAbs _, BuiltByRow.lsrAbsx _, BuiltByRow.rolAcc, BuiltByRow.rolZp _,
    BuiltByRow.rolZpx _, BuiltByRow.rolAbs _, BuiltByRow.rolAbsx _, BuiltByRow.rorAcc, BuiltByRow.rorZp _,
    BuiltByRow.rorZpx _, BuiltByRow.rorAbs _, BuiltByRow.rorAbsx _, BuiltByRow.bcc _, BuiltByRow.bcs _,
    BuiltByRow.beq _, BuiltByRow.bmi _, BuiltByRow.bne _, BuiltByRow.bpl _, BuiltByRow.bvc _, BuiltByRow.bvs _,
    BuiltByRow.jmpAbs _, BuiltByRow.jmpInd _, BuiltByRow.jsr _, BuiltByRow.rts, BuiltByRow.pha, BuiltByRow.php,
    BuiltByRow.pla, BuiltByRow.plp, BuiltByRow.clc, BuiltByRow.cld, BuiltByRow.cli, BuiltByRow.clv, BuiltByRow.sec,
    BuiltByRow.sed, BuiltByRow.sei, BuiltByRow.nop, BuiltByRow.brk, BuiltByRow.rti, BuiltByRow.unimplemented _]

/-- Decoding the encoding of a well-formed instruction gives it back, by the number of its operand bytes. -/
theorem decode_encode {i : Instr} (wf : i.wellFormed = true) (rest : List Byte) :
    decode (encode i ++ rest) = .ok (i, rest) := by
  have built := builtByRow i wf
  rw [encode, List.cons_append]
  split at built
  · next plain => rw [plain]; exact decode_plain built rest
  · next b one =>
    obtain ⟨f, entry, e⟩ := built
    rw [one, ← e]
    exact decode_byte (e ▸ entry) b rest
  · next lo hi two =>
    obtain ⟨f, entry, e⟩ := built
    rw [two]
    exact (decode_word entry lo hi rest).trans (by rw [e])
  · exact built.elim

/-- What decodes is a well-formed instruction, and its encoding and the bytes left over are the bytes decoded: what an
opcode builds carries the opcode and the operand bytes it was built from. -/
theorem encode_of_decode {bytes left : List Byte} {i : Instr} (h : decode bytes = .ok (i, left)) :
    i.wellFormed = true ∧ encode i ++ left = bytes := by
  cases bytes with
  | nil => cases h
  | cons op rest =>
    have faithful := buildOf_faithful op
    cases entry : buildOf op with
    | plain j =>
      rw [decode_plain entry] at h
      cases h
      rw [entry] at faithful
      obtain ⟨wf, opcode, operands⟩ := faithful
      exact ⟨wf, by simp [encode, opcode, operands]⟩
    | byte f =>
      match rest with
      | [] => simp [decode, entry] at h
      | b :: more =>
        rw [decode_byte entry] at h
        cases h
        rw [entry] at faithful
        obtain ⟨wf, opcode, operands⟩ := faithful b
        exact ⟨wf, by simp [encode, opcode, operands]⟩
    | word f =>
      match rest with
      | [] | [_] => simp [decode, entry] at h
      | lo :: hi :: more =>
        rw [decode_word entry] at h
        cases h
        rw [entry] at faithful
        obtain ⟨wf, opcode, operands⟩ := faithful (cat16 hi lo)
        exact ⟨wf, by simp [encode, opcode, operands]⟩

/-- Three bytes are enough for any opcode (R164). -/
theorem decode_three_bytes (op b1 b2 : Byte) (rest : List Byte) :
    ∃ i left, decode (op :: b1 :: b2 :: rest) = .ok (i, left) := by
  cases entry : buildOf op with
  | plain i => exact ⟨_, _, decode_plain entry _⟩
  | byte f => exact ⟨_, _, decode_byte entry b1 _⟩
  | word f => exact ⟨_, _, decode_word entry b1 b2 _⟩

/-- Settles O2, by the number of operand bytes of the instruction. -/
theorem decodeOfEncode : Obligations.DecodeOfEncode := fun _ rest wf => decode_encode wf rest

/-- Settles O3: three bytes decode, and what decodes encodes to what was decoded. -/
theorem encodeOfDecode : Obligations.EncodeOfDecode := by
  intro op b1 b2 rest
  obtain ⟨i, left, decoded⟩ := decode_three_bytes op b1 b2 rest
  exact ⟨i, left, decoded, encode_of_decode decoded⟩

/-- Settles O4: what decodes is well-formed, and a well-formed UNIMPLEMENTED is decoded from its encoding. -/
theorem unimplementedOpcodesExactly : Obligations.UnimplementedOpcodesExactly := by
  refine ⟨fun op rest => ?_, rfl, by decide, rfl, opcodeTable_nodup⟩
  have listed : op.toNat ∈ unimplementedOpcodes ↔ isUnimplemented op = true := by simp [isUnimplemented]
  rw [listed]
  exact ⟨fun decoded => (encode_of_decode decoded).1, fun wf => decode_encode (i := .unimplemented op) wf rest⟩

/-- Settles O1: each word is the encoding of its row's instruction. -/
theorem specWordsDecode : Obligations.SpecWordsDecode :=
  ⟨decodeOfEncode (.ldaImm 0x80) [] rfl, decodeOfEncode (.ldaAbsx 0x12FF) [] rfl,
    decodeOfEncode (.staIndy 0x10) [] rfl, decodeOfEncode .txs [] rfl, decodeOfEncode (.adcImm 0x50) [] rfl,
    decodeOfEncode (.bitAbs 0x0200) [] rfl, decodeOfEncode (.cmpIndx 0x10) [] rfl,
    decodeOfEncode (.incAbsx 0x12FF) [] rfl, decodeOfEncode .rorAcc [] rfl, decodeOfEncode (.bne 0xFB) [] rfl,
    decodeOfEncode (.jmpInd 0x02FF) [] rfl, decodeOfEncode .plp [] rfl, decodeOfEncode .sei [] rfl,
    decodeOfEncode (.unimplemented 0x02) [] rfl⟩

end Sys2Proof
end

section
/-! The address resolver in natural-number arithmetic (30_encoding.md R145 to R156): each address it computes from
bytes, and what it leaves of the state. -/

namespace Sys2Proof.Machine

theorem cat16_eq (hi lo : Byte) : cat16 hi lo = BitVec.ofNat 16 (hi.toNat * 256 + lo.toNat) := by
  rw [← cat16_toNat, BitVec.ofNat_toNat, BitVec.setWidth_eq]

theorem zext16_eq (b : Byte) : zext16 b = BitVec.ofNat 16 b.toNat := by
  rw [BitVec.ofNat_toNat, zext16]

/-- A zero-page address that is indexed stays in the zero page (R146, R147, R153). -/
theorem zext16_add (a b : Byte) : zext16 (a + b) = BitVec.ofNat 16 ((a.toNat + b.toNat) % 256) := by
  rw [zext16_eq, BitVec.toNat_add]

/-- The second byte of the pointer of `ind` lies in the page of the first (R152). -/
theorem cat16_same_page (p : Word) :
    cat16 (hi8 p) (lo8 p + 1#8) = BitVec.ofNat 16 (p.toNat / 256 * 256 + (p.toNat + 1) % 256) := by
  rw [cat16_eq, hi8_toNat, BitVec.toNat_add, lo8_toNat, BitVec.toNat_ofNat, Nat.mod_add_mod]

/-- Indexing adds mod 65536, and crosses a page where the high byte changes (R149, R150, R151, R154). -/
theorem indexed_eq (base : Word) (index : Byte) (s : State) :
    indexed base index s = ⟨BitVec.ofNat 16 (base.toNat + index.toNat),
      decide (base.toNat / 256 ≠ (base.toNat + index.toNat) % 65536 / 256), s⟩ := by
  have ea : base + zext16 index = BitVec.ofNat 16 (base.toNat + index.toNat) := by
    rw [zext16_eq, BitVec.ofNat_add, BitVec.ofNat_toNat (x := base), BitVec.setWidth_eq]
  have crossed (a : Word) : (page base != page a) = decide (base.toNat / 256 ≠ a.toNat / 256) := by
    rw [Bool.eq_iff_iff]
    simp [← BitVec.toNat_inj, page, hi8_toNat]
  rw [indexed, ea, crossed, BitVec.toNat_ofNat]

/-- Settles O12: the direct modes compute on registers and operand bytes alone. -/
theorem directModes : Obligations.DirectModes := by
  intro a w s
  refine ⟨?_, ?_, ?_, rfl, indexed_eq w s.x s, indexed_eq w s.y s⟩
  · rw [resolve, zext16_eq]
  · rw [resolve, zext16_add]
  · rw [resolve, zext16_add]

/-- Settles O13: the two reads of a pointer are those of `readWord`, at the addresses the rules give. -/
theorem pointerModes : Obligations.PointerModes := by
  intro z p s
  have pointer : zext16 (z + 1#8) = BitVec.ofNat 16 ((z.toNat + 1) % 256) := zext16_add z 1#8
  have indexedPointer : zext16 (z + s.x + 1#8) = BitVec.ofNat 16 ((z.toNat + s.x.toNat + 1) % 256) := by
    rw [zext16_add, BitVec.toNat_add, BitVec.toNat_ofNat, Nat.mod_add_mod]
  refine ⟨?_, ?_, ?_⟩
  · simp only [resolve, cat16_same_page, readWord]
    rw [cat16_eq]
  · simp only [resolve, indexedPointer, zext16_add, readWord]
    rw [cat16_eq]
  · simp only [resolve, pointer, zext16_eq, readWord, indexed_eq, cat16_toNat]

/-- Reading an operand takes the bus on and changes no register (R156). -/
theorem readOperand_state (o : Operand) (s : State) :
    (readOperand o s).state = { s with bus := (readOperand o s).state.bus } := by
  cases o with
  | imm v => rfl
  | mem m => cases m <;> rfl

/-- Settles O14: after the resolver there is one read, and no read changes memory. -/
theorem operandRead : Obligations.OperandRead := fun _ m s =>
  ⟨rfl, ⟨rfl, rfl⟩, rfl, _, readOperand_state (.mem m) s, readOperand_bus_mem (.mem m) s⟩

end Sys2Proof.Machine
end

section
/-! A step and the decoder (30_encoding.md R140, R180): the instruction that a step fetches is the one the bytes at PC
decode to. -/

namespace Sys2Proof.Machine

/-- Fetching bytes moves PC past them and takes the bus on; memory, the address decode and the policy stay. -/
theorem fetchBytes_eq (n : Nat) (s : State) : ∃ b : Bus,
    (fetchBytes n s).2 = { s with pc := s.pc + BitVec.ofNat 16 n, bus := b } ∧
    b.mem = s.bus.mem ∧ b.map = s.bus.map ∧ b.openBus = s.bus.openBus := by
  induction n generalizing s with
  | zero => exact ⟨s.bus, by simp [fetchBytes], rfl, rfl, rfl⟩
  | succ n ih =>
    obtain ⟨b, eq, mem, map, policy⟩ := ih (fetchByte s).state
    have pc : s.pc + 1#16 + BitVec.ofNat 16 n = s.pc + BitVec.ofNat 16 (n + 1) := by
      rw [BitVec.ofNat_add, BitVec.add_assoc, BitVec.add_comm 1#16]
    refine ⟨b, ?_, by simpa using mem, by simpa using map, by simpa using policy⟩
    rw [fetchBytes, eq, ← pc]
    rfl

/-- The fetched instruction has as many operand bytes as the entry of its opcode asks for (R164). -/
theorem fetchInstr_operands_length (s : State) :
    (fetchInstr s).instr.operands.length = (buildOf (fetchByte s).value).operandBytes := by
  obtain ⟨-, -, operands⟩ := fetchInstr_faithful s
  simpa [operands] using fetchBytes_length (buildOf (fetchByte s).value).operandBytes (fetchByte s).state

/-- Fetching an instruction is fetching the bytes of its encoding. -/
theorem fetchBytes_encode (s : State) : fetchBytes (encode (fetchInstr s).instr).length s =
    (encode (fetchInstr s).instr, (fetchInstr s).state) := by
  obtain ⟨-, opcode, operands⟩ := fetchInstr_faithful s
  simp [encode, fetchBytes, fetchInstr_operands_length, operands, opcode]

theorem operandBytes_le (b : Build) : b.operandBytes ≤ 2 := by
  cases b <;> simp [Build.operandBytes]

/-- The decoder consumes at most three bytes (R141). -/
theorem fetchInstr_encode_length_le (s : State) : (encode (fetchInstr s).instr).length ≤ 3 := by
  rw [encode, List.length_cons, fetchInstr_operands_length]
  exact Nat.succ_le_succ (operandBytes_le _)

/-- The instruction that is fetched is what the bytes at PC decode to. -/
theorem decode_fetchBytes {s : State} {i : Instr} {rest : List Byte}
    (h : decode (fetchBytes 3 s).1 = .ok (i, rest)) : (fetchInstr s).instr = i := by
  obtain ⟨more, total⟩ := Nat.exists_eq_add_of_le (fetchInstr_encode_length_le s)
  rw [total, fetchBytes_add, fetchBytes_encode, decode_encode (fetchInstr_faithful s).1] at h
  cases h
  rfl

/-- Settles O5: a step executes the fetched instruction in the state after the fetches of its encoding. -/
theorem stepRunsDecoded : Obligations.StepRunsDecoded := by
  intro s i rest executes decoded
  obtain rfl := decode_fetchBytes decoded
  obtain ⟨b, eq, mem, map, policy⟩ := fetchBytes_eq (encode (fetchInstr s).instr).length s
  refine ⟨b, eq, mem, map, policy, ?_⟩
  rw [fetchBytes_encode, step_of_executes executes]

end Sys2Proof.Machine
end

section
/-! The cycles of an instruction on a bus with no device (30_encoding.md R181, R182): no write reports a stall there. -/

namespace Sys2Proof.Machine

open Sys2Proof.Reference

theorem locate_kind {map : List Region} {a : Nat} {kind : RegionKind} {k : Nat} (h : locate map a = some (kind, k)) :
    ∃ r ∈ map, r.kind = kind := by
  induction map with
  | nil => simp [locate] at h
  | cons r rest ih =>
    rw [locate] at h
    split at h
    · cases h
      exact ⟨r, List.mem_cons_self, rfl⟩
    · obtain ⟨q, mem, e⟩ := ih h
      exact ⟨q, List.mem_cons_of_mem r mem, e⟩

/-- On a bus with no device no address is a device register. -/
theorem Bus.NoDevice.place_ne {b : Bus} (h : b.NoDevice) (a : Word) (k : Nat) : b.place a ≠ some (.device, k) := by
  intro place
  obtain ⟨r, mem, e⟩ := locate_kind place
  exact h r mem e

/-- Whether a bus has a device is a matter of the address decode alone. -/
theorem Bus.noDevice_congr {b c : Bus} (h : c.map = b.map) : c.NoDevice ↔ b.NoDevice := by
  simp [Bus.NoDevice, h]

/-! ### No write reports a stall -/

theorem memWrite_stall {s : State} (h : s.bus.NoDevice) (addr : Word) (v : Byte) : (memWrite s addr v).stall = 0 :=
  Bus.write_stall_of_not_device (h.place_ne addr) s.cyc v

theorem push_stall {s : State} (h : s.bus.NoDevice) (v : Byte) : (push s v).stall = 0 :=
  memWrite_stall h (stackAddr s.sp) v

theorem pushWord_stall {s : State} (h : s.bus.NoDevice) (v : Word) : (pushWord s v).stall = 0 := by
  have low : (push s (hi8 v)).state.bus.NoDevice := (Bus.noDevice_congr (by simp)).2 h
  simp [pushWord, push_stall h, push_stall low]

theorem takeException_stall {s : State} (h : s.bus.NoDevice) (brk : Bool) (vector : Word) :
    (takeException brk vector s).stall = 0 := by
  have status : (pushWord s s.pc).state.bus.NoDevice := (Bus.noDevice_congr (by simp)).2 h
  simp [takeException, pushWord_stall h, push_stall status]

/-! ### The classes -/

/-- The rows that carry the page penalty (R182). -/
theorem opcodeTable_pagePenalty :
    ∀ r ∈ opcodeTable, r.pagePenalty = true ↔ (r.cls = .read ∧ r.mode ∈ [Mode.absx, .absy, .indy]) := by
  decide +kernel

/-- A row of another class than `read` carries no page penalty. -/
theorem Instr.pagePenalty_eq_false {i : Instr} {r : Row} (row : i.row = some r) (other : r.cls ≠ .read) :
    r.pagePenalty = false := by
  have penalty := opcodeTable_pagePenalty r (findRow_some row).1
  exact Bool.eq_false_iff.2 fun h => other (penalty.1 h).1

/-- A well-formed UNIMPLEMENTED has no row (R163). -/
theorem Instr.row_unimplemented {op : Byte} (wf : (Instr.unimplemented op).wellFormed = true) :
    (Instr.unimplemented op).row = none :=
  Laws.rowOf_unimplemented op wf

/-- An instruction of class `read` reads its operand, with an effect that counts no cycle. The operand crosses a page
exactly where the row carries the penalty and the effective address crossed: the other modes of the class cross none. -/
theorem exec_read {i : Instr} {r : Row} (wf : i.wellFormed = true) (row : i.row = some r) (read : r.cls = .read) :
    ∃ effect o, exec i = readClass o r.cycles effect ∧ (∀ m s, (effect m s).cyc = s.cyc) ∧
      ∀ s, (readOperand o s).crossed = (r.pagePenalty && crossedPage i s) := by
  cases i with
  | ldaImm | ldaZp | ldaZpx | ldaAbs | ldaAbsx | ldaAbsy | ldaIndx | ldaIndy | ldxImm | ldxZp | ldxZpy | ldxAbs
  | ldxAbsy | ldyImm | ldyZp | ldyZpx | ldyAbs | ldyAbsx | adcImm | adcZp | adcZpx | adcAbs | adcAbsx | adcAbsy
  | adcIndx | adcIndy | sbcImm | sbcZp | sbcZpx | sbcAbs | sbcAbsx | sbcAbsy | sbcIndx | sbcIndy | andImm | andZp
  | andZpx | andAbs | andAbsx | andAbsy | andIndx | andIndy | oraImm | oraZp | oraZpx | oraAbs | oraAbsx | oraAbsy
  | oraIndx | oraIndy | eorImm | eorZp | eorZpx | eorAbs | eorAbsx | eorAbsy | eorIndx | eorIndy | bitZp | bitAbs
  | cmpImm | cmpZp | cmpZpx | cmpAbs | cmpAbsx | cmpAbsy | cmpIndx | cmpIndy | cpxImm | cpxZp | cpxAbs | cpyImm
  | cpyZp | cpyAbs =>
    obtain rfl : _ = r := by simpa using row
    exact ⟨_, _, rfl, fun _ _ => rfl, fun s => by
      simp [readOperand, resolve, indexed, crossedPage, Instr.memMode, Instr.operands]⟩
  | unimplemented op => simp [Instr.row_unimplemented wf] at row
  | _ =>
    obtain rfl : _ = r := by simpa using row
    cases read

/-- Class `read` pays for a crossing of the page where its row carries the penalty (R182). -/
theorem exec_read_cyc {i : Instr} {r : Row} {s t : State} (wf : i.wellFormed = true) (row : i.row = some r)
    (read : r.cls = .read) (h : exec i s = .next t) :
    t.cyc = s.cyc + r.cycles + pagePenalty (r.pagePenalty && crossedPage i s) := by
  obtain ⟨effect, o, runs, cyc, crossed⟩ := exec_read wf row read
  rw [runs] at h
  obtain rfl := Host.Outcome.next.inj h
  simp [cyc, crossed, Nat.add_assoc]

/-- On a bus with no device an instruction that is neither of class `read` nor a branch counts its base cycles. -/
theorem Runs.base_cycles {i : Instr} {f : State → Result} (h : Runs i f) {r : Row} {s t : State} (hr : i.row = some r)
    (wf : i.wellFormed = true) (read : r.cls ≠ .read) (branch : r.cls ≠ .branch) (noDevice : s.bus.NoDevice)
    (ht : f s = .next t) : t.cyc = s.cyc + r.cycles := by
  cases h <;> obtain rfl := Host.Outcome.next.inj ht
  case read op o row =>
    obtain rfl : _ = r := by simpa [row] using hr
    exact absurd rfl read
  case branch op off row =>
    obtain rfl : _ = r := by simpa [row] using hr
    exact absurd rfl branch
  case unimplemented op => simp [Instr.row_unimplemented wf] at hr
  case write reg m row =>
    have resolved : (resolve m s).state.bus.NoDevice := (Bus.noDevice_congr (by simp)).2 noDevice
    obtain rfl : _ = r := by simpa [row] using hr
    simp [memWrite_stall resolved]
  case rmw op m row =>
    have resolved : (memRead (resolve m s).state (resolve m s).ea).state.bus.NoDevice :=
      (Bus.noDevice_congr (by simp)).2 noDevice
    obtain rfl : _ = r := by simpa [row] using hr
    simp [memWrite_stall resolved]
  case acc op shift row | jump m row | implied op row =>
    obtain rfl : _ = r := by simpa [row] using hr
    simp
  all_goals obtain rfl : _ = r := by simpa using hr
  case jsr lo => simp [pushWord_stall noDevice]
  case pha | php => simp [push_stall noDevice]
  case brk =>
    have fetched : (fetchByte s).state.bus.NoDevice := (Bus.noDevice_congr (by simp)).2 noDevice
    simp [takeException_stall fetched]
  all_goals simp

/-- Settles O56: class `read` by the crossing of its operand, the other classes by their base cycles. -/
theorem cyclesOfEveryRow : Obligations.CyclesOfEveryRow := by
  refine ⟨fun i r s t wf row branch noDevice h => ?_, opcodeTable_pagePenalty⟩
  by_cases read : r.cls = .read
  · exact exec_read_cyc wf row read h
  · simpa [Instr.pagePenalty_eq_false row read] using (exec_runs i).base_cycles row wf read branch noDevice h

end Sys2Proof.Machine
end

section
/-! Loads, stores and transfers (40_load_store_transfer.md): the model's flag rule and the ends of the instruction classes in
the terms of the statements, and the forms of each mnemonic as instructions of their class. -/

namespace Sys2Proof.Machine

open Sys2Proof.Reference

/-- `SetNZ` of a byte is the reference rule on its value: bit 7 is set from 128 on. -/
theorem nz_toNat (r : Byte) (p : Flags) : nz r.toNat p = setNZ r p := by
  have negative : decide (128 ≤ r.toNat) = r.getLsbD 7 :=
    (BitVec.msb_eq_decide r).symm.trans (BitVec.msb_eq_getLsbD_last r)
  have zero : decide (r.toNat = 0) = (r == 0#8) := decide_eq_decide.2 (BitVec.toNat_inj (y := 0#8))
  simp only [nz, setNZ, negative, zero]

/-- A form that is a class `read` instruction reads its operand with the effect of that class, which need only be looked at
in states that differ from the start state in the bus. -/
theorem reads_of_readClass {effect given : Byte → State → State} {f : Form Operand} {s : State}
    (bytes : encode f.instr = f.bytes) (runs : exec f.instr s = readClass f.place f.cycles given s)
    (same : ∀ m bus, given m (s.setBus bus) = effect m (s.setBus bus)) : Reads effect f s := by
  have state : (readOperand f.place s).state = s.setBus (readOperand f.place s).state.bus := readOperand_state f.place s
  refine ⟨bytes, runs.trans ?_⟩
  calc readClass f.place f.cycles given s
      = ends (given (readOperand f.place s).value (readOperand f.place s).state)
          (cost f.cycles (readOperand f.place s).crossed) := rfl
    _ = ends (effect (readOperand f.place s).value (readOperand f.place s).state)
          (cost f.cycles (readOperand f.place s).crossed) := by rw [state, same]

/-- Every form of LDA, LDX and LDY has the bytes of its row and is a class `read` instruction at its place, with its mnemonic's
effect (R200 to R202). -/
theorem exec_loadForms (b : Byte) (w : Word) (s : State) :
    ∀ load ∈ [(ldaForms b w, effectLda), (ldxForms b w, effectLdx), (ldyForms b w, effectLdy)], ∀ f ∈ load.1,
      encode f.instr = f.bytes ∧ exec f.instr s = readClass f.place f.cycles load.2 s := by
  simp only [List.forall_mem_cons, List.not_mem_nil, ldaForms, ldxForms, ldyForms, false_implies, implies_true, and_true]
  and_intros <;> rfl

/-- Every form of STA, STX and STY has the bytes of its row (R203 to R205). -/
theorem encode_storeForms (b : Byte) (w : Word) :
    ∀ forms ∈ [staForms b w, stxForms b w, styForms b w], ∀ f ∈ forms, encode f.instr = f.bytes := by
  simp only [List.forall_mem_cons, List.not_mem_nil, staForms, stxForms, styForms, false_implies, implies_true, and_true]
  and_intros <;> rfl

/-- Class `write` makes one write at the effective address, and ends in its fixed cycles and the stall (R156, R182). -/
theorem writeClass_eq_ends (m : MemMode) (n : Nat) (v : Byte) (s : State) :
    let r := resolve m s
    writeClass m n v s = ends (memWrite r.state r.ea v).state (n + (memWrite r.state r.ea v).stall) := rfl

/-- Settles O15: every form is a class `read` instruction, whose effect writes the register and sets N and Z. -/
theorem loadResults : Obligations.LoadResults := by
  intro b w s
  have forms := exec_loadForms b w s
  simp only [List.forall_mem_cons] at forms
  obtain ⟨lda, ldx, ldy, -⟩ := forms
  simp only [nz_toNat]
  exact ⟨fun f hf => reads_of_readClass (lda f hf).1 (lda f hf).2 fun _ _ => rfl,
    fun f hf => reads_of_readClass (ldx f hf).1 (ldx f hf).2 fun _ _ => rfl,
    fun f hf => reads_of_readClass (ldy f hf).1 (ldy f hf).2 fun _ _ => rfl⟩

/-- Settles O16: every form is a class `write` instruction with its register's byte. -/
theorem storeResults : Obligations.StoreResults := by
  intro b w s
  have bytes := encode_storeForms b w
  have runs := exec_storeForms b w s
  simp only [List.forall_mem_cons, writeClass_eq_ends] at bytes runs
  obtain ⟨staBytes, stxBytes, styBytes, -⟩ := bytes
  obtain ⟨sta, stx, sty, -⟩ := runs
  exact ⟨fun f hf => ⟨staBytes f hf, sta f hf⟩, fun f hf => ⟨stxBytes f hf, stx f hf⟩,
    fun f hf => ⟨styBytes f hf, sty f hf⟩⟩

/-- Settles O18: each transfer copies one register to another and, but for TXS, sets N and Z from it. -/
theorem transferResults : Obligations.TransferResults := by
  intro s
  simp only [nz_toNat]
  exact ⟨rfl, rfl, rfl, rfl, rfl, rfl, rfl⟩

end Sys2Proof.Machine
end

section
/-! Add and subtract with carry (41_arithmetic.md): the shared adder in integer arithmetic, for ADC as it is and for SBC with
the complement of the operand. -/

namespace Sys2Proof.Machine

open Sys2Proof.Reference

/-- Bit 7 is the sign. -/
theorem getLsbD_seven_eq_toInt_neg (r : Byte) : r.getLsbD 7 = decide (r.toInt < 0) :=
  (BitVec.msb_eq_getLsbD_last r).symm.trans BitVec.msb_eq_toInt

/-- The adder's result, read as two's complement, is the signed sum reduced to a byte (R239). -/
theorem toInt_adder_fst (a b : Byte) (p : Flags) :
    (adder a b p).1.toInt = (a.toInt + b.toInt + p.c.toNat).bmod 256 := by
  have ha := BitVec.toInt_eq_toNat_cond a
  have hb := BitVec.toInt_eq_toNat_cond b
  have hr := BitVec.toInt_eq_toNat_cond (adder a b p).1
  have result : (adder a b p).1.toNat = (a.toNat + b.toNat + p.c.toNat) % 256 := BitVec.toNat_ofNat _ 8
  rw [Int.bmod_def]
  omega

/-- The adder's V: both operands differ from the result in sign exactly when the signed sum does not fit in a byte (R239). -/
theorem adder_v (a b : Byte) (p : Flags) :
    (adder a b p).2.v = overflows (a.toInt + b.toInt + p.c.toNat) := by
  have v : (adder a b p).2.v = ((a ^^^ (adder a b p).1) &&& (b ^^^ (adder a b p).1)).getLsbD 7 := rfl
  have result := toInt_adder_fst a b p
  rw [Int.bmod_def] at result
  have ha := BitVec.toInt_lt (x := a)
  have ha' := BitVec.le_toInt (x := a)
  have hb := BitVec.toInt_lt (x := b)
  have hb' := BitVec.le_toInt (x := b)
  have carry := Bool.toNat_le p.c
  rw [v, BitVec.getLsbD_and, BitVec.getLsbD_xor, BitVec.getLsbD_xor, Bool.eq_iff_iff]
  simp only [getLsbD_seven_eq_toInt_neg, overflows, Bool.and_eq_true, bne_iff_ne, ne_eq, decide_eq_decide,
    decide_eq_true_eq]
  omega

/-- The adder in natural-number arithmetic for its result, N, Z and C, and in signed arithmetic for V (R239). -/
theorem adder_eq (a b : Byte) (p : Flags) :
    let sum := a.toNat + b.toNat + p.c.toNat
    adder a b p = (BitVec.ofNat 8 sum,
      { nz (sum % 256) p with c := decide (255 < sum), v := overflows (a.toInt + b.toInt + p.c.toNat) }) := by
  intro sum
  have result : (BitVec.ofNat 8 sum).toNat = sum % 256 := BitVec.toNat_ofNat sum 8
  rw [← adder_v, ← result, nz_toNat]
  rfl

theorem toNat_not8 (m : Byte) : (not8 m).toNat = 255 - m.toNat := by
  unfold not8
  bv_omega

theorem toInt_not8 (m : Byte) : (not8 m).toInt = -m.toInt - 1 := by
  have := toNat_not8 m
  simp only [BitVec.toInt_eq_toNat_cond, this]
  omega

/-- With the complement of the operand the adder subtracts: its sum is 256 more than the difference with borrow (R241). -/
theorem adder_not8_eq (a m : Byte) (p : Flags) :
    let diff : Int := a.toNat - m.toNat - (1 - p.c.toNat)
    adder a (not8 m) p = (BitVec.ofInt 8 diff,
      { nz (diff % 256).toNat p with
        c := decide (0 ≤ diff), v := overflows (a.toInt - m.toInt - (1 - p.c.toNat)) }) := by
  intro diff
  have sum : ((a.toNat + (not8 m).toNat + p.c.toNat : Nat) : Int) = diff + 256 := by
    have := toNat_not8 m
    omega
  have signed : a.toInt + (not8 m).toInt + p.c.toNat = a.toInt - m.toInt - (1 - p.c.toNat) := by
    rw [toInt_not8]
    omega
  have result : BitVec.ofNat 8 (a.toNat + (not8 m).toNat + p.c.toNat) = BitVec.ofInt 8 diff := by
    rw [← BitVec.ofInt_natCast, sum]
    exact BitVec.eq_of_toInt_eq (by simpa using Int.add_bmod_right (a := diff) (b := 256))
  have carry : 255 < a.toNat + (not8 m).toNat + p.c.toNat ↔ 0 ≤ diff := by omega
  have byte : (a.toNat + (not8 m).toNat + p.c.toNat) % 256 = (diff % 256).toNat := by omega
  simp only [adder_eq, signed, result, carry, byte]

/-- Every form of ADC and SBC has the bytes of its row and is a class `read` instruction at its place, with its mnemonic's
effect (R240, R241). -/
theorem exec_arithmeticForms (b : Byte) (w : Word) (s : State) :
    ∀ add ∈ [(adcForms b w, effectAdc), (sbcForms b w, effectSbc)], ∀ f ∈ add.1,
      encode f.instr = f.bytes ∧ exec f.instr s = readClass f.place f.cycles add.2 s := by
  simp only [List.forall_mem_cons, List.not_mem_nil, adcForms, sbcForms, false_implies, implies_true, and_true]
  and_intros <;> rfl

/-- Settles O19: every form is a class `read` instruction, whose effect is the adder on A and the operand. -/
theorem adcResult : Obligations.AdcResult := by
  intro b w s f hf
  obtain ⟨bytes, runs⟩ := exec_arithmeticForms b w s (adcForms b w, effectAdc) (by simp) f hf
  refine reads_of_readClass bytes runs fun m bus => ?_
  simp only [effectAdc, State.setBus_a, State.setBus_p, adder_eq]
  rfl

/-- Settles O20: every form is a class `read` instruction, whose effect is the adder on A and the operand's complement. -/
theorem sbcResult : Obligations.SbcResult := by
  intro b w s f hf
  obtain ⟨bytes, runs⟩ := exec_arithmeticForms b w s (sbcForms b w, effectSbc) (by simp) f hf
  refine reads_of_readClass bytes runs fun m bus => ?_
  simp only [effectSbc, State.setBus_a, State.setBus_p, adder_not8_eq]
  rfl

end Sys2Proof.Machine
end

section
/-! Logical operations and bit test (42_logical.md): the forms of AND, ORA, EOR and BIT as class `read` instructions, and the
flags of BIT in the terms of the statement. -/

namespace Sys2Proof.Machine

open Sys2Proof.Reference

/-- Every form of AND, ORA, EOR and BIT has the bytes of its row and is a class `read` instruction at its place, with its
mnemonic's effect (R260 to R263). -/
theorem exec_logicalForms (b : Byte) (w : Word) (s : State) :
    ∀ op ∈ [(andForms b w, effectAnd), (oraForms b w, effectOra), (eorForms b w, effectEor), (bitForms b w, effectBit)],
      ∀ f ∈ op.1, encode f.instr = f.bytes ∧ exec f.instr s = readClass f.place f.cycles op.2 s := by
  simp only [List.forall_mem_cons, List.not_mem_nil, andForms, oraForms, eorForms, bitForms, false_implies, implies_true,
    and_true]
  and_intros <;> rfl

/-- Bit 7 of a byte is set from 128 on. -/
theorem getLsbD_seven_eq_decide (m : Byte) : m.getLsbD 7 = decide (128 ≤ m.toNat) :=
  (BitVec.msb_eq_getLsbD_last m).symm.trans (BitVec.msb_eq_decide m)

/-- Bit 6 of a byte is set where what lies below bit 7 is at least 64. -/
theorem getLsbD_six_eq_decide (m : Byte) : m.getLsbD 6 = decide (64 ≤ m.toNat % 128) := by
  rw [← BitVec.testBit_toNat, Nat.testBit_eq_decide_div_mod_eq, decide_eq_decide]
  omega

/-- The flags of BIT: N and V are bits 7 and 6 of the operand, Z is whether A and the operand have no bit in common (R263). -/
theorem bitFlags_eq (a m : Byte) (p : Flags) :
    bitFlags a m p = { p with
      n := decide (128 ≤ m.toNat), v := decide (64 ≤ m.toNat % 128), z := decide (a &&& m = 0) } := by
  rw [← getLsbD_seven_eq_decide, ← getLsbD_six_eq_decide]
  rfl

/-- Settles O21: every form is a class `read` instruction, whose effect combines A with the operand and sets N and Z. -/
theorem logicalResults : Obligations.LogicalResults := by
  intro b w s
  have forms := exec_logicalForms b w s
  simp only [List.forall_mem_cons] at forms
  obtain ⟨and, ora, eor, -⟩ := forms
  simp only [nz_toNat]
  exact ⟨fun f hf => reads_of_readClass (and f hf).1 (and f hf).2 fun _ _ => rfl,
    fun f hf => reads_of_readClass (ora f hf).1 (ora f hf).2 fun _ _ => rfl,
    fun f hf => reads_of_readClass (eor f hf).1 (eor f hf).2 fun _ _ => rfl⟩

/-- Settles O22: both forms are class `read` instructions, whose effect writes the flags of BIT and no register. -/
theorem bitResult : Obligations.BitResult := by
  intro b w s f hf
  obtain ⟨bytes, runs⟩ := exec_logicalForms b w s (bitForms b w, effectBit) (by simp) f hf
  simp only [← bitFlags_eq]
  exact reads_of_readClass bytes runs fun _ _ => rfl

end Sys2Proof.Machine
end

section
/-! Compare (43_compare.md): the shared comparator in natural-number arithmetic, and the forms of CMP, CPX and CPY as class
`read` instructions. -/

namespace Sys2Proof.Machine

open Sys2Proof.Reference

/-- The comparator on two bytes is the reference rule on their values (R280). -/
theorem compared_toNat (r m : Byte) (p : Flags) : compared r.toNat m.toNat p = compareFlags r m p := by
  have difference : (r - m).toNat = (r.toNat + 256 - m.toNat) % 256 := by
    have := BitVec.toNat_sub r m
    omega
  have negative : decide (128 ≤ (r.toNat + 256 - m.toNat) % 256) = (r - m).getLsbD 7 := by
    rw [getLsbD_seven_eq_decide, difference]
  have equal : decide (r.toNat = m.toNat) = (r == m) := decide_eq_decide.2 BitVec.toNat_inj
  simp only [compared, compareFlags, negative, equal]

/-- Every form of CMP, CPX and CPY has the bytes of its row and is a class `read` instruction at its place, with its mnemonic's
effect (R281 to R283). -/
theorem exec_compareForms (b : Byte) (w : Word) (s : State) :
    ∀ op ∈ [(cmpForms b w, effectCmp), (cpxForms b w, effectCpx), (cpyForms b w, effectCpy)], ∀ f ∈ op.1,
      encode f.instr = f.bytes ∧ exec f.instr s = readClass f.place f.cycles op.2 s := by
  simp only [List.forall_mem_cons, List.not_mem_nil, cmpForms, cpxForms, cpyForms, false_implies, implies_true, and_true]
  and_intros <;> rfl

/-- Settles O23: every form is a class `read` instruction, whose effect writes the comparator's flags and no register. -/
theorem compareResults : Obligations.CompareResults := by
  intro b w s
  have forms := exec_compareForms b w s
  simp only [List.forall_mem_cons] at forms
  obtain ⟨cmp, cpx, cpy, -⟩ := forms
  simp only [compared_toNat]
  exact ⟨fun f hf => reads_of_readClass (cmp f hf).1 (cmp f hf).2 fun _ _ => rfl,
    fun f hf => reads_of_readClass (cpx f hf).1 (cpx f hf).2 fun _ _ => rfl,
    fun f hf => reads_of_readClass (cpy f hf).1 (cpy f hf).2 fun _ _ => rfl⟩

end Sys2Proof.Machine
end

section
/-! Increment and decrement (44_inc_dec.md): one more and one less mod 256 in natural-number arithmetic, and the forms of INC and
DEC as class `rmw` instructions. -/

namespace Sys2Proof.Machine

open Sys2Proof.Reference

/-- Natural-number addition on the value of a byte, reduced to a byte, is the addition of bytes. -/
theorem ofNat_toNat_add (m : Byte) (k : Nat) : BitVec.ofNat 8 (m.toNat + k) = m + BitVec.ofNat 8 k := by
  rw [BitVec.ofNat_add, BitVec.ofNat_toNat, BitVec.setWidth_eq]

/-- A natural-number sum mod 256 is the value of the sum of bytes. -/
theorem toNat_add_mod_256 (m : Byte) (k : Nat) : (m.toNat + k) % 256 = (m + BitVec.ofNat 8 k).toNat := by
  rw [← ofNat_toNat_add, BitVec.toNat_ofNat]

/-- One less mod 256 is 255 more mod 256. -/
theorem add_255_eq_sub_one (m : Byte) : m + 255#8 = m - 1#8 := (BitVec.sub_eq_add_neg m 1#8).symm

/-- A form that is a class `rmw` instruction rewrites the byte at its effective address by that class's rule, given in
natural-number arithmetic. -/
theorem rewritesMemory_of_rmwClass {f : Nat → Flags → Nat × Flags} {given : Byte → Flags → Byte × Flags}
    {form : Form MemMode} {s : State} (bytes : encode form.instr = form.bytes)
    (runs : exec form.instr s = rmwClass form.place form.cycles given s)
    (same : ∀ m p, given m p = (BitVec.ofNat 8 (f m.toNat p).1, (f m.toNat p).2)) : RewritesMemory f form s := by
  refine ⟨bytes, runs.trans ?_⟩
  simp only [rmwClass, same]
  rfl

/-- INC's rule for a byte in natural-number arithmetic (R300). -/
theorem incByte_eq (m : Byte) (p : Flags) :
    incByte m p = (BitVec.ofNat 8 ((m.toNat + 1) % 256), nz ((m.toNat + 1) % 256) p) := by
  rw [toNat_add_mod_256, nz_toNat, BitVec.ofNat_toNat, BitVec.setWidth_eq]
  rfl

/-- DEC's rule for a byte in natural-number arithmetic (R301). -/
theorem decByte_eq (m : Byte) (p : Flags) :
    decByte m p = (BitVec.ofNat 8 ((m.toNat + 255) % 256), nz ((m.toNat + 255) % 256) p) := by
  rw [toNat_add_mod_256, nz_toNat, BitVec.ofNat_toNat, BitVec.setWidth_eq, add_255_eq_sub_one]
  rfl

/-- Every form of INC and DEC has the bytes of its row and is a class `rmw` instruction at its place, with its mnemonic's rule
for a byte (R300, R301). -/
theorem exec_incDecForms (b : Byte) (w : Word) (s : State) :
    ∀ op ∈ [(incForms b w, incByte), (decForms b w, decByte)], ∀ f ∈ op.1,
      encode f.instr = f.bytes ∧ exec f.instr s = rmwClass f.place f.cycles op.2 s := by
  simp only [List.forall_mem_cons, List.not_mem_nil, incForms, decForms, false_implies, implies_true, and_true]
  and_intros <;> rfl

/-- Settles O24: every form is a class `rmw` instruction, whose rule adds 1 or 255 to the byte mod 256. -/
theorem incDecMemory : Obligations.IncDecMemory := by
  intro b w s
  have forms := exec_incDecForms b w s
  simp only [List.forall_mem_cons] at forms
  obtain ⟨inc, dec, -⟩ := forms
  exact ⟨fun f hf => rewritesMemory_of_rmwClass (inc f hf).1 (inc f hf).2 incByte_eq,
    fun f hf => rewritesMemory_of_rmwClass (dec f hf).1 (dec f hf).2 decByte_eq⟩

/-- Settles O25: each adds 1 or 255 to its register mod 256, and sets N and Z from the sum. -/
theorem incDecRegisters : Obligations.IncDecRegisters := by
  intro s
  simp only [ofNat_toNat_add, toNat_add_mod_256, nz_toNat, add_255_eq_sub_one]
  exact ⟨rfl, rfl, rfl, rfl, rfl⟩

end Sys2Proof.Machine
end

section
/-! Shifts and rotates (45_shift_rotate.md): the model's rule for a byte in natural-number arithmetic, the accumulator forms as
class `acc` instructions and the memory forms as class `rmw` instructions. -/

namespace Sys2Proof.Machine

open Sys2Proof.Reference

/-- The bit shifted out to the right is set in an odd byte. -/
theorem getLsbD_zero_eq_decide (m : Byte) : m.getLsbD 0 = decide (m.toNat % 2 = 1) := by
  rw [← BitVec.testBit_toNat, Nat.testBit_zero]

theorem toNat_shiftLeft_one (m : Byte) : (m <<< 1).toNat = m.toNat * 2 % 256 := by
  rw [BitVec.toNat_shiftLeft, Nat.shiftLeft_eq]

theorem toNat_ushiftRight_one (m : Byte) : (m >>> 1).toNat = m.toNat / 2 := by
  rw [BitVec.toNat_ushiftRight, Nat.shiftRight_eq_div_pow, Nat.pow_one]

/-- A byte rule of the model does what a reference shift does to the value and the carry. -/
def ImplementsShift (given : Byte → Flags → Byte × Flags) (f : Nat → Nat → Nat × Bool) : Prop :=
  ∀ m p, given m p = (BitVec.ofNat 8 (shiftRewrite f m.toNat p).1, (shiftRewrite f m.toNat p).2)

/-- The end of `Shift` is the reference rewrite where the result's value and the bit shifted out are (R320). -/
theorem shifted_eq {f : Nat → Nat → Nat × Bool} {m r : Byte} {out : Bool} {p : Flags}
    (result : r.toNat = (f m.toNat p.c.toNat).1) (carry : out = (f m.toNat p.c.toNat).2) :
    shifted r out p = (BitVec.ofNat 8 (shiftRewrite f m.toNat p).1, (shiftRewrite f m.toNat p).2) := by
  simp only [shiftRewrite, ← result, ← carry, nz_toNat, BitVec.ofNat_toNat, BitVec.setWidth_eq]
  rfl

theorem aslByte_implementsShift : ImplementsShift aslByte aslRef := fun m _ =>
  shifted_eq (toNat_shiftLeft_one m) (getLsbD_seven_eq_decide m)

theorem lsrByte_implementsShift : ImplementsShift lsrByte lsrRef := fun m _ =>
  shifted_eq (toNat_ushiftRight_one m) (getLsbD_zero_eq_decide m)

theorem rolByte_implementsShift : ImplementsShift rolByte rolRef := fun m p => by
  refine shifted_eq ?_ (getLsbD_seven_eq_decide m)
  calc (m <<< 1 + BitVec.ofNat 8 p.c.toNat).toNat
      = ((m <<< 1).toNat + p.c.toNat) % 256 := (toNat_add_mod_256 _ _).symm
    _ = (m.toNat * 2 + p.c.toNat) % 256 := by rw [toNat_shiftLeft_one, Nat.mod_add_mod]

/-- The half of a byte is below 128, so the old carry in bit 7 does not wrap. -/
theorem rorByte_implementsShift : ImplementsShift rorByte rorRef := fun m p => by
  refine shifted_eq ?_ (getLsbD_zero_eq_decide m)
  have noWrap : m.toNat / 2 + p.c.toNat * 128 < 256 := by
    have := m.isLt
    have := Bool.toNat_le p.c
    omega
  calc (m >>> 1 + BitVec.ofNat 8 (p.c.toNat * 128)).toNat
      = ((m >>> 1).toNat + p.c.toNat * 128) % 256 := (toNat_add_mod_256 _ _).symm
    _ = m.toNat / 2 + p.c.toNat * 128 := by rw [toNat_ushiftRight_one, Nat.mod_eq_of_lt noWrap]

/-- A class `acc` instruction whose byte rule implements a reference shift does that shift to A in 2 cycles (R320). -/
theorem shiftsA_of_accClass {f : Nat → Nat → Nat × Bool} {given : Byte → Flags → Byte × Flags} {opcode : Byte}
    {i : Instr} {s : State} (shift : ImplementsShift given f) (bytes : encode i = [opcode])
    (runs : exec i s = accClass 2 given s) : ShiftsA f opcode i s := by
  refine ⟨bytes, runs.trans ?_⟩
  rw [accClass, shift]
  rfl

/-- Every memory form of ASL, LSR, ROL and ROR has the bytes of its row and is a class `rmw` instruction at its place, with its
mnemonic's rule for a byte (R321 to R324). -/
theorem exec_shiftForms (b : Byte) (w : Word) (s : State) :
    ∀ op ∈ [(aslForms b w, aslByte), (lsrForms b w, lsrByte), (rolForms b w, rolByte), (rorForms b w, rorByte)],
      ∀ f ∈ op.1, encode f.instr = f.bytes ∧ exec f.instr s = rmwClass f.place f.cycles op.2 s := by
  simp only [List.forall_mem_cons, List.not_mem_nil, aslForms, lsrForms, rolForms, rorForms, false_implies, implies_true,
    and_true]
  and_intros <;> rfl

/-- Settles O26: the accumulator forms are class `acc` and the memory forms class `rmw` instructions, with a byte rule that
implements their mnemonic's reference shift. -/
theorem shiftResults : Obligations.ShiftResults := by
  intro b w s
  have forms := exec_shiftForms b w s
  simp only [List.forall_mem_cons] at forms
  obtain ⟨asl, lsr, rol, ror, -⟩ := forms
  exact ⟨shiftsA_of_accClass aslByte_implementsShift rfl rfl, shiftsA_of_accClass lsrByte_implementsShift rfl rfl,
    shiftsA_of_accClass rolByte_implementsShift rfl rfl, shiftsA_of_accClass rorByte_implementsShift rfl rfl,
    fun f hf => rewritesMemory_of_rmwClass (asl f hf).1 (asl f hf).2 aslByte_implementsShift,
    fun f hf => rewritesMemory_of_rmwClass (lsr f hf).1 (lsr f hf).2 lsrByte_implementsShift,
    fun f hf => rewritesMemory_of_rmwClass (rol f hf).1 (rol f hf).2 rolByte_implementsShift,
    fun f hf => rewritesMemory_of_rmwClass (ror f hf).1 (ror f hf).2 rorByte_implementsShift⟩

end Sys2Proof.Machine
end

section
/-! Branches (46_branch.md): the target in integer arithmetic, the two ends of `Branch(cond)`, and the eight forms as
instructions of class `branch`. -/

namespace Sys2Proof.Machine

open Sys2Proof.Reference

/-- Two addresses lie in different pages when their high bytes differ (R8). -/
theorem page_bne_page (a b : Word) : (page a != page b) = decide (a.toNat / 256 ≠ b.toNat / 256) := by
  rw [Bool.eq_iff_iff]
  simp [← BitVec.toNat_inj, page, hi8_toNat]

/-- The target is PC and the signed offset mod 65536; the page it is compared with is that of PC, which holds the address of
the next instruction (R155). -/
theorem branchTarget_eq (off : Byte) (s : State) :
    let target : Word := BitVec.ofInt 16 (s.pc.toNat + off.toInt)
    branchTarget off s = ⟨target, decide (s.pc.toNat / 256 ≠ target.toNat / 256), s⟩ := by
  intro target
  have ea : s.pc + sext16 off = target := Option.some.inj (resolvedAddress_rel off s)
  rw [branchTarget, ea, page_bne_page]

/-- A branch whose condition holds goes to its target, in one cycle more than its base, or two across a page (R183, R340). -/
theorem branchClass_taken (off : Byte) (s : State) :
    let target : Word := BitVec.ofInt 16 (s.pc.toNat + off.toInt)
    branchClass true off 2 s =
      ends { s with pc := target } (if s.pc.toNat / 256 = target.toNat / 256 then 3 else 4) := by
  intro target
  rw [branchClass, branchTarget_eq]
  by_cases same : s.pc.toNat / 256 = target.toNat / 256
  · rw [if_pos same, decide_eq_false (not_not_intro same)]
    rfl
  · rw [if_neg same, decide_eq_true same]
    rfl

/-- A branch whose condition fails leaves PC at the next instruction, in its base cycles (R183, R340). -/
theorem branchClass_not_taken (off : Byte) (n : Nat) (s : State) : branchClass false off n s = ends s n := rfl

/-- Every branch has the bytes of its row and is a class `branch` instruction with its condition and 2 base cycles
(R341 to R348). -/
theorem exec_branchForms (off : Byte) (s : State) :
    ∀ f ∈ branchForms off s.p,
      encode f.instr = f.bytes ∧ f.cycles = 2 ∧ exec f.instr s = branchClass f.place off 2 s := by
  simp only [List.forall_mem_cons, List.not_mem_nil, branchForms, false_implies, implies_true, true_and, and_true]
  and_intros <;> rfl

/-- Settles O27: every form is a class `branch` instruction, and ends as its condition decides. -/
theorem branchResults : Obligations.BranchResults := by
  intro off s f hf
  obtain ⟨bytes, cycles, runs⟩ := exec_branchForms off s f hf
  refine ⟨bytes, runs.trans ?_⟩
  rw [cycles]
  cases f.place with
  | false => exact branchClass_not_taken off 2 s
  | true => exact branchClass_taken off s

end Sys2Proof.Machine
end

section
/-! Jumps and subroutines (47_jump_subroutine.md): what a pull gives of the bytes memory holds, the results of JMP, JSR and
RTS, and the return from a subroutine. -/

namespace Sys2Proof.Machine

/-- A pull gives the byte that memory holds one above SP, mod 256 (R111). -/
theorem pull_value_of_peek {s : State} {v : Byte} (held : s.bus.peek (stackAddr (s.sp + 1#8)) = some v) :
    (pull s).value = v := Bus.read_of_peek held

/-- Two pulls give the word whose bytes memory holds above SP, the low byte first (R362). -/
theorem pullWord_value_of_peek {s : State} {w : Word} (low : s.bus.peek (stackAddr (s.sp + 1#8)) = some (lo8 w))
    (high : s.bus.peek (stackAddr (s.sp + 1#8 + 1#8)) = some (hi8 w)) : (pullWord s).value = w := by
  have second : (pull (pull s).state).value = hi8 w := pull_value_of_peek (by simpa using high)
  rw [pullWord, pull_value_of_peek low, second, cat16_hi8_lo8]

/-- After JSR the two bytes of the return address less 1 are held above SP: its last fetch changes no byte of memory (R361,
log 21). -/
theorem exec_jsr_leaves (lo : Byte) {s : State} (wf : s.bus.mem.wf = true) (stack : s.bus.StackInRam) :
    ∃ t, exec (.jsr lo) s = .next t ∧ t.bus.peek (stackAddr (t.sp + 1#8)) = some (lo8 s.pc) ∧
      t.bus.peek (stackAddr (t.sp + 1#8 + 1#8)) = some (hi8 s.pc) ∧
      t.sp = s.sp - 1#8 - 1#8 ∧ t.a = s.a ∧ t.x = s.x ∧ t.y = s.y ∧ t.p = s.p := by
  refine ⟨_, rfl, ?_, ?_, ?_⟩
  · simpa using pushWord_peek_low wf stack s.pc
  · simpa using pushWord_peek_high wf stack s.pc
  · simp

/-- RTS goes one past the word that memory holds above SP, and changes no other register and no flag (R362). -/
theorem exec_rts_of_peek {s : State} {w : Word} (low : s.bus.peek (stackAddr (s.sp + 1#8)) = some (lo8 w))
    (high : s.bus.peek (stackAddr (s.sp + 1#8 + 1#8)) = some (hi8 w)) :
    ∃ u, exec .rts s = .next u ∧ u.pc = w + 1#16 ∧
      u.sp = s.sp + 1#8 + 1#8 ∧ u.a = s.a ∧ u.x = s.x ∧ u.y = s.y ∧ u.p = s.p := by
  refine ⟨_, rfl, ?_, ?_⟩
  · exact congrArg (· + 1#16) (pullWord_value_of_peek low high)
  · simp

/-- Settles O32: RTS finds the two bytes that JSR left above SP. -/
theorem subroutineReturns : Obligations.SubroutineReturns := by
  intro lo s inv stack
  obtain ⟨t, jsr, low, high, sp, a, x, y, p⟩ := exec_jsr_leaves lo inv.1 stack
  obtain ⟨u, rts, pc', sp', a', x', y', p'⟩ := exec_rts_of_peek low high
  have balanced : u.sp = s.sp := by rw [sp', sp, BitVec.sub_add_cancel, BitVec.sub_add_cancel]
  exact ⟨t, u, jsr, rts, pc', balanced, a'.trans a, x'.trans x, y'.trans y, p'.trans p⟩

/-- Settles O28: JMP goes to the effective address of its mode, whose pointer keeps to its page. -/
theorem jumpResults : Obligations.JumpResults := by
  intro w s
  refine ⟨rfl, rfl, rfl, ?_⟩
  rw [← cat16_same_page]
  intro lo hi
  rw [← cat16_eq]
  rfl

/-- Settles O29: the two pushes come before the fetch at PC, and each reports its own stall (log 8). -/
theorem jsrResult : Obligations.JsrResult := by
  intro lo s
  refine ⟨rfl, ?_⟩
  intro h l hi
  rw [← cat16_eq, Nat.add_assoc]
  rfl

/-- Settles O31: the pulled word and 1 are added mod 65536. -/
theorem rtsResult : Obligations.RtsResult := by
  intro s
  refine ⟨rfl, ?_⟩
  intro lo hi
  rw [BitVec.ofNat_add, ← cat16_eq]
  rfl

end Sys2Proof.Machine
end

section
/-! The stack, the flag instructions and RTI (48_stack.md, 49_flags_system.md): the packed status as the statements write it
out, and each result. -/

namespace Sys2Proof.Machine

open Sys2Proof.Reference

/-- `Pack(b)` as the statements write it out is the model's (R55). -/
theorem packed_toNat (b : Bool) (p : Flags) : packed b.toNat p = pack b p := by
  simp [packed, pack]

/-- Settles O33: PHP's byte is `Pack(1)`. -/
theorem pushResults : Obligations.PushResults := by
  intro s
  refine ⟨rfl, rfl, ?_⟩
  intro p byte
  have packs : byte = pack true s.p := packed_toNat true s.p
  rw [packs]
  rfl

/-- Settles O34: PLA sets N and Z from the pulled byte, and PLP unpacks it. -/
theorem pullResults : Obligations.PullResults := by
  intro s
  simp only [nz_toNat]
  exact ⟨rfl, rfl, rfl⟩

/-- Settles O35: each flag instruction is one update of the flags, and CLI and SEI hand on the I from before. -/
theorem flagInstructionResults : Obligations.FlagInstructionResults := fun _ =>
  ⟨rfl, rfl, rfl, rfl, rfl, rfl, rfl, rfl, rfl⟩

/-- Settles O37: the two bytes pulled after the status are PC, the low byte first. -/
theorem rtiResult : Obligations.RtiResult := by
  intro s
  refine ⟨rfl, ?_⟩
  intro p lo hi
  rw [← cat16_eq]
  rfl

end Sys2Proof.Machine
end

section
/-! Taking an exception and returning from it (R420, R421, R451, R455): the shared entry as the statements write it out, the
services that use it, and that RTI undoes it. -/

namespace Sys2Proof.Machine

open Sys2Proof.Reference

/-- The entry as the statements write it out is the model's: setting I before the vector is read or after it is the same. -/
theorem exceptionEntry_eq (brk : Bool) (vector : Word) (s : State) : exceptionEntry brk.toNat vector s =
    ((takeException brk vector s).state, (takeException brk vector s).stall) := by
  simp only [exceptionEntry, packed_toNat]
  rfl

/-- Settles O36: BRK takes the exception with the Break bit set, in the state after its padding byte. -/
theorem brkResult : Obligations.BrkResult := by
  intro s
  refine ⟨rfl, ?_⟩
  intro e
  have entry : e = _ := exceptionEntry_eq true irqVector (fetchByte s).state
  rw [entry]
  rfl

/-- A boundary with an interrupt pending runs its sequence and executes no instruction (R180). -/
theorem step_of_pending {s : State} {kind : InterruptKind} (attached : s.busAttached = true) (noFault : s.fault = none)
    (pending : pendingInterrupt s = some kind) : step s = interruptSequence kind s := by
  simp [step, attached, noFault, pending]

/-- An NMI is serviced exactly where one is latched (R446). -/
theorem pendingInterrupt_eq_nmi (s : State) : pendingInterrupt s = some .nmi ↔ s.nmiLatch = true := by
  cases latch : s.nmiLatch <;> simp [pendingInterrupt, latch]

/-- An IRQ is serviced exactly where no NMI is latched, the line is asserted and the polled value does not mask it (R447). -/
theorem pendingInterrupt_eq_irq (s : State) :
    pendingInterrupt s = some .irq ↔ s.nmiLatch = false ∧ s.irqLine = true ∧ s.iPoll = false := by
  cases latch : s.nmiLatch <;> simp [pendingInterrupt, latch]

/-- Settles O43: NMI's sequence is the entry with Break clear, through its own vector. -/
theorem nmiIsServiced : Obligations.NmiIsServiced := by
  intro s attached noFault latch e
  have entry : e = _ := exceptionEntry_eq false nmiVector s
  have pending := (pendingInterrupt_eq_nmi s).2 latch
  obtain ⟨w, rfl, runs⟩ := interruptSequence_eq .nmi s
  rw [step_of_pending attached noFault pending, runs, entry]
  simp [State.addCycles, State.setIPoll, State.setNmi]

/-- Settles O44: IRQ's sequence is the entry with Break clear, through the vector it shares with BRK. -/
theorem irqIsServiced : Obligations.IrqIsServiced := by
  intro s attached noFault latch line unmasked e
  have entry : e = _ := exceptionEntry_eq false irqVector s
  have pending := (pendingInterrupt_eq_irq s).2 ⟨latch, line, unmasked⟩
  obtain ⟨w, rfl, runs⟩ := interruptSequence_eq .irq s
  rw [step_of_pending attached noFault pending, runs, entry]
  exact ⟨by simp [State.addCycles, State.setIPoll], by simpa using line⟩

/-- After an exception is taken, the status it pushed is held one above SP, and the bytes of PC above that: the vector reads
change no byte of memory (log 21). -/
theorem takeException_leaves {s : State} (wf : s.bus.mem.wf = true) (stack : s.bus.StackInRam) (brk : Bool)
    (vector : Word) : let t := (takeException brk vector s).state
    t.bus.peek (stackAddr (t.sp + 1#8)) = some (pack brk s.p) ∧
    t.bus.peek (stackAddr (t.sp + 1#8 + 1#8)) = some (lo8 s.pc) ∧
    t.bus.peek (stackAddr (t.sp + 1#8 + 1#8 + 1#8)) = some (hi8 s.pc) := by
  have decode : (pushWord s s.pc).state.bus.map = s.bus.map := pushWord_bus_map s s.pc
  have stack' : (pushWord s s.pc).state.bus.StackInRam := (Bus.stackInRam_congr decode).2 stack
  have kept : ∀ v ≠ s.sp - 1#8 - 1#8, (push (pushWord s s.pc).state (pack brk s.p)).state.bus.peek (stackAddr v) =
      (pushWord s s.pc).state.bus.peek (stackAddr v) := fun v ne =>
    push_peek_apart _ _ _ (by simpa using stack.apart ne)
  intro t
  refine ⟨?_, ?_, ?_⟩
  · simpa [t, takeException] using push_peek_self (pushWord_wf s s.pc wf) stack' (pack brk s.p)
  · have held := (kept (s.sp - 1#8) (by bv_omega)).trans (pushWord_peek_low wf stack s.pc)
    simpa [t, takeException] using held
  · have held := (kept s.sp (by bv_omega)).trans (pushWord_peek_high wf stack s.pc)
    simpa [t, takeException] using held

/-- An interrupt sequence leaves the registers alone, and holds the status with Break clear and PC above SP (R451). -/
theorem interruptSequence_leaves (kind : InterruptKind) {s : State} (wf : s.bus.mem.wf = true)
    (stack : s.bus.StackInRam) : ∃ t, interruptSequence kind s = .next t ∧
      t.bus.peek (stackAddr (t.sp + 1#8)) = some (pack false s.p) ∧
      t.bus.peek (stackAddr (t.sp + 1#8 + 1#8)) = some (lo8 s.pc) ∧
      t.bus.peek (stackAddr (t.sp + 1#8 + 1#8 + 1#8)) = some (hi8 s.pc) ∧
      t.sp = s.sp - 1#8 - 1#8 - 1#8 ∧ t.a = s.a ∧ t.x = s.x ∧ t.y = s.y ∧ t.p = { s.p with i := true } := by
  cases kind with
  | nmi =>
    obtain ⟨status, low, high⟩ := takeException_leaves wf stack false nmiVector
    exact ⟨_, rfl, status, low, high, by simp⟩
  | irq =>
    obtain ⟨status, low, high⟩ := takeException_leaves wf stack false irqVector
    exact ⟨_, rfl, status, low, high, by simp⟩

/-- RTI takes the flags and PC from the three bytes that memory holds above SP, and changes no other register (R421). -/
theorem exec_rti_of_peek {s : State} {v : Byte} {w : Word} (status : s.bus.peek (stackAddr (s.sp + 1#8)) = some v)
    (low : s.bus.peek (stackAddr (s.sp + 1#8 + 1#8)) = some (lo8 w))
    (high : s.bus.peek (stackAddr (s.sp + 1#8 + 1#8 + 1#8)) = some (hi8 w)) :
    ∃ u, exec .rti s = .next u ∧ u.pc = w ∧ u.p = unpack v s.p ∧
      u.sp = s.sp + 1#8 + 1#8 + 1#8 ∧ u.a = s.a ∧ u.x = s.x ∧ u.y = s.y := by
  refine ⟨_, rfl, ?_, ?_, by simp⟩
  · exact pullWord_value_of_peek (s := (pull s).state.setP (unpack (pull s).value s.p)) (by simpa using low)
      (by simpa using high)
  · simp [returnFromException, pull_value_of_peek status]

/-- Settles O48: RTI finds the three bytes that the sequence left above SP, and unpacking the status gives every flag back,
B by leaving it alone. -/
theorem interruptReturns : Obligations.InterruptReturns := by
  intro kind s inv stack
  obtain ⟨t, enters, status, low, high, sp, a, x, y, p⟩ := interruptSequence_leaves kind inv.1 stack
  obtain ⟨u, returns, pc', p', sp', a', x', y'⟩ := exec_rti_of_peek status low high
  have flags : u.p = s.p := by
    rw [p', p]
    exact unpack_pack false s.p
  have balanced : u.sp = s.sp := by simp only [sp', sp, BitVec.sub_add_cancel]
  exact ⟨t, u, enters, returns, pc', flags, balanced, a'.trans a, x'.trans x, y'.trans y⟩

end Sys2Proof.Machine
end

section
/-! The fatal fault and reset (R440, R500). -/

namespace Sys2Proof.Machine

/-- An opcode that R163 lists is fetched alone, and is the instruction that names it (R163). -/
theorem fetchInstr_unimplemented {s : State} (listed : isUnimplemented (fetchByte s).value = true) :
    fetchInstr s = ⟨.unimplemented (fetchByte s).value, (fetchByte s).state⟩ := by
  have entry : buildOf (fetchByte s).value = .plain (.unimplemented (fetchByte s).value) := by
    simp [buildOf, Laws.rowOf_unimplemented _ listed]
  simp [fetchInstr, entry]

/-- Settles O38: the step fetches the opcode alone, and the fault puts PC back to it. -/
theorem unimplementedRecordsFault : Obligations.UnimplementedRecordsFault := by
  refine ⟨fun _ _ => rfl, fun s executes listed => ?_⟩
  have fetched := fetchInstr_unimplemented (s := s) (List.contains_iff_mem.2 listed)
  calc step s = exec (.unimplemented (fetchByte s).value) (fetchByte s).state := by
        rw [step_of_executes executes, fetched]
    _ = .next { (memRead s s.pc).state with
          fault := some ⟨(memRead s s.pc).value, s.pc + 1#16 - 1#16⟩, pc := s.pc + 1#16 - 1#16 } := rfl
    _ = _ := by rw [BitVec.add_sub_cancel]; rfl

/-- Settles O50: the reset sequence reads its vector low byte first, and a read changes no memory (log 21). -/
theorem resetSequenceResult : Obligations.ResetSequenceResult := by
  intro s
  refine ⟨fun detached => by simp [hostReset, detached], fun attached => ?_⟩
  intro lo hi
  refine ⟨?_, by simp [hi, lo]⟩
  rw [← cat16_eq, hostReset, if_pos attached]
  rfl

end Sys2Proof.Machine
end

section
/-! The windows of CLI, SEI and PLP (70_reset_and_hazards.md R510): the boundary after one of them samples the I from before
it. -/

namespace Sys2Proof.Machine

@[simp] theorem fetchInstr_busAttached (s : State) : (fetchInstr s).state.busAttached = s.busAttached := by
  obtain ⟨n, b, h, -⟩ := fetchInstr_eq s; rw [h]

/-- A step of CLI, SEI or PLP leaves the old I to the next boundary, where nothing else than the IRQ line can be pending. -/
theorem step_of_delayed {s t : State} (executes : s.Executes) (delayed : (fetchInstr s).instr ∈ [Instr.cli, .sei, .plp])
    (runs : exec (fetchInstr s).instr (fetchInstr s).state = .next t) :
    step s = .next t ∧ t.iPoll = s.p.i ∧ t.busAttached = true ∧ t.fault = none ∧ t.nmiLatch = false ∧
      t.irqLine = s.irqLine := by
  have ⟨attached, noFault, latch, _⟩ := executes
  obtain ⟨nmi, irq, bus⟩ := (exec_runs _).host_inputs_kept runs
  have documented : ∀ op, (fetchInstr s).instr ≠ .unimplemented op := by
    intro op e
    simp [e] at delayed
  have fault := (exec_runs _).fault_kept runs documented
  exact ⟨(step_of_executes executes).trans runs, by simpa using exec_poll_before runs delayed,
    by simpa [attached] using bus, by simpa [noFault] using fault, by simpa [latch] using nmi, by simpa using irq⟩

/-- CLI and SEI write their one value to I, and PLP the bit it pulls (R402, R406, R383). -/
theorem exec_writes_i {i : Instr} {s : State} {v : Bool}
    (h : i = cond v .sei .cli ∨ i = .plp ∧ (pull s).value.getLsbD 2 = v) :
    i ∈ [Instr.cli, .sei, .plp] ∧ ∃ t, exec i s = .next t ∧ t.p.i = v := by
  obtain rfl | ⟨rfl, pulled⟩ := h
  · cases v <;> exact ⟨by simp, _, rfl, rfl⟩
  · exact ⟨by simp, _, rfl, pulled⟩

/-- An asserted IRQ is taken after an instruction that leaves I clear, or delays its write of I and found I clear (R62). -/
theorem pendingInterrupt_after_step {t u : State} (executes : t.Executes) (line : t.irqLine = true) (clear : t.p.i = false)
    (runs : step t = .next u) (noFault : u.fault = none)
    (unmasked : (fetchInstr t).instr ∈ [Instr.cli, .sei, .plp] ∨ u.p.i = false) : pendingInterrupt u = some .irq := by
  obtain ⟨before, after⟩ := pollRule t u runs noFault
  obtain ⟨irq, latch⟩ := interruptInputsAreTheHosts.1 t u runs
  refine (pendingInterrupt_eq_irq u).2 ⟨latch, irq.trans line, ?_⟩
  by_cases delayed : (fetchInstr t).instr ∈ [Instr.cli, .sei, .plp]
  · exact (before executes delayed).trans clear
  · exact (after fun h => delayed h.2).trans (unmasked.resolve_left delayed)

/-- Settles O46: the next boundary samples the set I from before, and the one after it the I left clear. -/
theorem cliWindow : Obligations.CliWindow := by
  intro s executes line masked instr
  obtain ⟨delayed, t, runs, clear⟩ := exec_writes_i (v := false) instr
  obtain ⟨next, poll, attached, noFault, latch, irq⟩ := step_of_delayed executes delayed runs
  have line' : t.irqLine = true := irq.trans line
  have idle : t.nmiLatch = false ∧ (t.irqLine = false ∨ t.iPoll = true) := ⟨latch, .inr (poll.trans masked)⟩
  have executes' : t.Executes := ⟨attached, noFault, idle⟩
  exact ⟨t, next, clear, line', (pendingInterrupt_eq_none t).2 idle, executes', fun u runs' noFault' unmasked =>
    pendingInterrupt_after_step executes' line' clear runs' noFault' unmasked⟩

/-- Settles O47: the next boundary samples the clear I from before. -/
theorem seiWindow : Obligations.SeiWindow := by
  intro s executes clear instr
  obtain ⟨delayed, t, runs, set⟩ := exec_writes_i (v := true) instr
  obtain ⟨next, poll, -, -, latch, -⟩ := step_of_delayed executes delayed runs
  exact ⟨t, next, set, (pendingInterrupt_eq_irq _).2 ⟨latch, rfl, poll.trans clear⟩⟩

end Sys2Proof.Machine
end

section
/-! CYC is not read (R58, R520): on a bus with no device every operation carries a larger CYC through. -/

namespace Sys2Proof.Machine

open Sys2Proof.Reference

/-- Only a write to a device register may look at CYC (R104, log 5). -/
theorem Bus.write_cyc_of_not_device {b : Bus} {a : Word} (h : ∀ k, b.place a ≠ some (.device, k)) (c d : Nat)
    (v : Byte) : b.write c a v = b.write d a v := by
  unfold Bus.write
  split
  · rfl
  · next k place => exact absurd place (h k)
  · rfl
  · rfl

theorem memWrite_addCycles {s : State} (h : s.bus.NoDevice) (k : Nat) (addr : Word) (v : Byte) :
    memWrite (s.addCycles k) addr v = ⟨(memWrite s addr v).state.addCycles k, (memWrite s addr v).stall⟩ := by
  have same : s.bus.write (s.cyc + k) addr v = s.bus.write s.cyc addr v :=
    Bus.write_cyc_of_not_device (h.place_ne addr) (s.cyc + k) s.cyc v
  simp only [memWrite, State.addCycles_bus, State.addCycles_cyc, same]
  rfl

theorem memRead_addCycles (s : State) (k : Nat) (addr : Word) :
    memRead (s.addCycles k) addr = ⟨(memRead s addr).value, (memRead s addr).state.addCycles k⟩ := rfl

theorem fetchByte_addCycles (s : State) (k : Nat) :
    fetchByte (s.addCycles k) = ⟨(fetchByte s).value, (fetchByte s).state.addCycles k⟩ := rfl

theorem push_addCycles {s : State} (h : s.bus.NoDevice) (k : Nat) (v : Byte) :
    push (s.addCycles k) v = ⟨(push s v).state.addCycles k, (push s v).stall⟩ := by
  simp only [push, State.addCycles_sp, memWrite_addCycles h]
  rfl

theorem pushWord_addCycles {s : State} (h : s.bus.NoDevice) (k : Nat) (v : Word) :
    pushWord (s.addCycles k) v = ⟨(pushWord s v).state.addCycles k, (pushWord s v).stall⟩ := by
  have low : (push s (hi8 v)).state.bus.NoDevice := (Bus.noDevice_congr (by simp)).2 h
  simp only [pushWord, push_addCycles h, push_addCycles low]

theorem takeException_addCycles {s : State} (h : s.bus.NoDevice) (k : Nat) (brk : Bool) (vector : Word) :
    takeException brk vector (s.addCycles k) =
      ⟨(takeException brk vector s).state.addCycles k, (takeException brk vector s).stall⟩ := by
  have status : (pushWord s s.pc).state.bus.NoDevice := (Bus.noDevice_congr (by simp)).2 h
  simp only [takeException, State.addCycles_pc, State.addCycles_p, pushWord_addCycles h, push_addCycles status]
  rfl

theorem pull_addCycles (s : State) (k : Nat) :
    pull (s.addCycles k) = ⟨(pull s).value, (pull s).state.addCycles k⟩ := rfl

theorem pullWord_addCycles (s : State) (k : Nat) :
    pullWord (s.addCycles k) = ⟨(pullWord s).value, (pullWord s).state.addCycles k⟩ := rfl

theorem State.setP_addCycles (s : State) (k : Nat) (p : Flags) : (s.addCycles k).setP p = (s.setP p).addCycles k := rfl

theorem returnFromException_addCycles (s : State) (k : Nat) :
    returnFromException (s.addCycles k) = (returnFromException s).addCycles k := by
  simp only [returnFromException, pull_addCycles, State.addCycles_p, State.setP_addCycles, pullWord_addCycles]
  rfl

theorem resolve_addCycles (m : MemMode) (s : State) (k : Nat) :
    resolve m (s.addCycles k) = ⟨(resolve m s).ea, (resolve m s).crossed, (resolve m s).state.addCycles k⟩ := by
  cases m <;> rfl

theorem readOperand_addCycles (o : Operand) (s : State) (k : Nat) : readOperand o (s.addCycles k) =
    ⟨(readOperand o s).value, (readOperand o s).crossed, (readOperand o s).state.addCycles k⟩ := by
  cases o with
  | imm v => rfl
  | mem m => simp only [readOperand, resolve_addCycles]; rfl

theorem ReadOp.effect_addCycles (op : ReadOp) (m : Byte) (s : State) (k : Nat) :
    op.effect m (s.addCycles k) = (op.effect m s).addCycles k := by
  cases op <;> rfl

theorem ImpliedOp.effect_addCycles (op : ImpliedOp) (s : State) (k : Nat) :
    op.effect (s.addCycles k) = (op.effect s).addCycles k := by
  cases op <;> rfl

/-- The cycles of an instruction are added to whatever CYC holds. -/
theorem finishWith_addCycles {s u : State} {k : Nat} (larger : u = s.addCycles k) (poll : Bool) (n : Nat) :
    finishWith poll u n = mapNext (fun t => t.addCycles k) (finishWith poll s n) := by
  simp only [larger, finishWith, mapNext, State.addCycles, State.setIPoll, Nat.add_right_comm]

theorem finish_addCycles {s u : State} {k : Nat} (larger : u = s.addCycles k) (n : Nat) :
    finish u n = mapNext (fun t => t.addCycles k) (finish s n) := by
  obtain rfl := larger
  exact finishWith_addCycles rfl s.p.i n

/-- Every shape carries a larger CYC through, where no write reaches a device. -/
theorem Runs.carries_cyc {i : Instr} {f : State → Result} (h : Runs i f) {s : State}
    (noDevice : s.bus.NoDevice) (k : Nat) : f (s.addCycles k) = mapNext (fun t => t.addCycles k) (f s) := by
  cases h
  case read op o row =>
    simp only [readClass, readOperand_addCycles, op.effect_addCycles]
    exact finish_addCycles (by rfl) _
  case write reg m row =>
    have resolved : (resolve m s).state.bus.NoDevice := (Bus.noDevice_congr (by simp)).2 noDevice
    simp only [writeClass, resolve_addCycles, memWrite_addCycles resolved]
    cases reg <;> exact finish_addCycles (by rfl) _
  case rmw op m row =>
    have read : (memRead (resolve m s).state (resolve m s).ea).state.bus.NoDevice :=
      (Bus.noDevice_congr (by simp)).2 noDevice
    have write := memWrite_addCycles read k (resolve m s).ea
      (op.apply (memRead (resolve m s).state (resolve m s).ea).value s.p).1
    simp only [rmwClass, resolve_addCycles, memRead_addCycles, State.addCycles_p, write]
    exact finish_addCycles (by rfl) _
  case branch op off row =>
    have holds : op.holds (s.addCycles k).p = op.holds s.p := rfl
    simp only [branchClass, holds]
    cases op.holds s.p <;> exact finish_addCycles (by rfl) _
  case jump m row =>
    simp only [resolve_addCycles]
    exact finish_addCycles (by rfl) _
  case implied op row =>
    simp only [op.effect_addCycles]
    exact finish_addCycles (by rfl) _
  case jsr lo =>
    simp only [execJsr, State.addCycles_pc, pushWord_addCycles noDevice]
    exact finish_addCycles (by rfl) _
  case pha | php =>
    simp only [execPha, execPhp, State.addCycles_a, State.addCycles_p, push_addCycles noDevice]
    exact finish_addCycles (by rfl) _
  case brk =>
    have fetched : (fetchByte s).state.bus.NoDevice := (Bus.noDevice_congr (by simp)).2 noDevice
    simp only [execBrk, fetchByte_addCycles, takeException_addCycles fetched]
    exact finish_addCycles (by rfl) _
  case cli | sei | plp => exact finishWith_addCycles (by rfl) _ _
  case unimplemented op => rfl
  case rti => exact finish_addCycles (returnFromException_addCycles s k) _
  case acc | rts | pla => exact finish_addCycles (by rfl) _

/-- Settles O59, by the shape of the meaning. -/
theorem cycIsNotRead : Obligations.CycIsNotRead := fun i _ k noDevice => (exec_runs i).carries_cyc noDevice k

end Sys2Proof.Machine
end
